-- ==== Sys2Proof/Word.lean ====
section
/-! DEFINITION. The widths the LS-648 works in: 32-bit link words, 30-bit BODY payloads, 24-bit samples. -/
namespace Sys2Proof

/-- A word of a link frame: 32 bits, bit 31 first on the fibre (chapter 12). -/
abbrev Word := BitVec 32

/-- The payload of a BODY control word, bits 29–0 (chapter 12, "Control words"). -/
abbrev Payload := BitVec 30

/-- An audio sample: a 24-bit two's-complement integer (chapter 0, "Samples"). -/
abbrev Sample := BitVec 24

/-- The 8 samples of one channel in one frame (chapter 0, "Time and units"). -/
abbrev SampleFrame := Vector Sample 8

end Sys2Proof
end

