-- ==== Sys2Proof/Syntax.lean ====
section
/-! DEFINITION. The commands of the LS-648: one constructor of `Instr` per row of spec/opcode_table.json, with the
operands the spec gives the step (a port, a path, a message, a frame, the inputs sampled at a boundary). -/
namespace Sys2Proof

/-- The three desk ports P0, P1, P2 (chapter 0, "Desk ports"). -/
inductive Port where
  | p0 | p1 | p2
deriving DecidableEq, Repr

/-- The two paths of a port (chapter 0, "Desk ports"). -/
inductive PathName where
  | a | b
deriving DecidableEq, Repr

/-- The two alarm lines ALM0 and ALM1 (chapter 11). -/
inductive Line where
  | line0 | line1
deriving DecidableEq, Repr

/-- The twelve fault kinds in the order of the table of chapter 11. -/
inductive FaultKind where
  | pathLoss | pathDegraded | clockFallback | phantomShed | outputFailover | deskAbsent
  | trackLimit | slip | resync | clockReject | controlDrop | replyOverrun
deriving DecidableEq, Repr

/-- Channels 0 to 47, banks 0 to 5, outputs 0 to 15, keys 0 to 3 (chapter 0, "Indexes"). -/
abbrev Chan := Fin 48
abbrev BankId := Fin 6
abbrev OutId := Fin 16
abbrev KeyId := Fin 4

/-- A complete message for this unit, without its kind: the tag, the argument field and the BODY words in order
(R39, R41). Its length field is the number of BODY words, because a message is complete at exactly that many. -/
structure Msg where
  tag  : BitVec 8
  arg  : BitVec 9
  body : List Payload
deriving DecidableEq, Repr

/-- A complete WRITE_SETTING whose item is named by the command itself: the tag and the BODY words (R134). -/
structure SettingMsg where
  tag  : BitVec 8
  body : List Payload
deriving DecidableEq, Repr

/-- A downstream frame as received: its 143 words, the sync word first and the check word last (R1, chapter 12). -/
abbrev Frame := Vector Word 143

/-- The units of frame-boundary work. At a boundary each is taken once, and where two reach the same state either
may be taken first (R4, R12, R17, R52, R60, R80, R82, R90, R113, R120, R146, R164, R186). -/
inductive Work where
  | score (p : Port) (x : PathName)   -- a path scores its interval (R4)
  | playout (p : Port)                -- a port's merge plays out (R18)
  | presence (p : Port)               -- a presence timer counts (R55)
  | capture (c : Chan)                -- a channel's captured frame (R73)
  | mute (c : Chan)                   -- a mute counter counts (R82)
  | reading                           -- the conversion in progress completes (R111)
  | bank (b : BankId)                 -- the phantom monitor's work for a bank (R113)
  | holdoff (o : OutId)               -- the output stage's work for an output (R146)
  | key (k : KeyId)                   -- a key line is sampled (R162)
  | build                             -- the three upstream frames are built (R23)
  | stretch (l : Line)                -- a stretch timer counts (R186)
deriving DecidableEq, Repr

/-- What the stage side gives the part at a boundary, and the order in which the boundary's work is taken:
the captured frame of every channel (R73), the key lines (true for a low sample, DOWN; R162), the code of the
conversion that completes (R111). Work that `order` does not name follows it in the order of `Work.all`. -/
structure BoundaryInput where
  captured : Vector SampleFrame 48
  keyLow   : Vector Bool 4
  rail     : BitVec 10
  order    : List Work
deriving DecidableEq, Repr

/-- The 61 steps of spec/opcode_table.json. A message row is the completion of one message for this unit from a port
(R45); a row that names a threshold of boundary work is that unit of the boundary's work, taken by itself. -/
inductive Instr where
  | reset (straps : BitVec 2)
  | frameArrival (p : Port) (x : PathName) (f : Frame)
  | lossOfSignal (p : Port) (x : PathName)
  | signalReturn (p : Port) (x : PathName)
  | stageFrameBoundary (i : BoundaryInput)
  | pathUp (p : Port) (x : PathName)
  | acquireMissDark (p : Port) (x : PathName)
  | pathDark (p : Port) (x : PathName)
  | degradeBlockJudged (p : Port) (x : PathName)
  | resync (p : Port)
  | unknownKindMessage (p : Port) (kind : BitVec 6) (m : Msg)
  | keepalive (p : Port) (m : Msg)
  | claimChannels (p : Port) (m : Msg)
  | releaseChannels (p : Port) (m : Msg)
  | claimOutputs (p : Port) (m : Msg)
  | releaseOutputs (p : Port) (m : Msg)
  | readOwners (p : Port) (m : Msg)
  | setGain (p : Port) (m : Msg)
  | setPad (p : Port) (m : Msg)
  | setPhantom (p : Port) (m : Msg)
  | readMeters (p : Port) (m : Msg)
  | setTrim (p : Port) (m : Msg)
  | setTracking (p : Port) (m : Msg)
  | readTracking (p : Port) (m : Msg)
  | phantomReset (p : Port) (m : Msg)
  | readPhantom (p : Port) (m : Msg)
  | readChanges (p : Port) (m : Msg)
  | readChannels (p : Port) (m : Msg)
  | writeClockPriority (p : Port) (m : SettingMsg)
  | writePathEnable (p : Port) (m : SettingMsg)
  | writePresenceTimeout (p : Port) (q : Port) (m : SettingMsg)
  | writePresencePolicy (p : Port) (q : Port) (m : SettingMsg)
  | writePhantomTrip (p : Port) (m : SettingMsg)
  | writeKeyConfig (p : Port) (k : KeyId) (m : SettingMsg)
  | writeTalkSource (p : Port) (m : SettingMsg)
  | writeStageTalkLevel (p : Port) (m : SettingMsg)
  | writeDuckDepth (p : Port) (m : SettingMsg)
  | writeAlarmMap (p : Port) (f : FaultKind) (m : SettingMsg)
  | readSettings (p : Port) (m : Msg)
  | readClock (p : Port) (m : Msg)
  | setOutput (p : Port) (m : Msg)
  | readOutputs (p : Port) (m : Msg)
  | talk (p : Port) (m : Msg)
  | ackCall (p : Port) (m : Msg)
  | clearFaults (p : Port) (m : Msg)
  | readFaults (p : Port) (m : Msg)
  | intervalComplete (p : Port) (ticks : Nat)
  | presenceExpiry (p : Port)
  | forcedStep (c : Chan) (f : SampleFrame)
  | muteCounterExpiry (c : Chan)
  | phantomReading (b : BankId) (code : BitVec 10)
  | holdoffEnd (b : BankId)
  | retryWatchEnd (b : BankId)
  | outputHoldoffEnd (o : OutId)
  | debouncedPress (k : KeyId)
  | debouncedRelease (k : KeyId)
  | stretchTimerExpiry (l : Line)
  | rstnLow
  | syncWordMatch (p : Port) (x : PathName) (bits : Word)
  | returnToHunting (p : Port) (x : PathName) (next : Word)
  | writeSettingBadItem (p : Port) (m : Msg)
deriving DecidableEq, Repr

end Sys2Proof
end

