-- ==== Sys2Proof/Decode.lean ====
section
/-! DEFINITION. The commands that a word spells by the bits of spec/opcode_table.json. No row of that table gives bits
("fields" is empty in all 61 rows and none has "fixed"): the LS-648 is a block whose steps are events, and the
control words that carry its messages are decoded inside the playout (Machine/Operands.lean). -/
namespace Sys2Proof

/-- The command that the `nbits` bits `w` spell by the table: none, because no row of the table gives bits. -/
def decodeTableWord (_nbits _w : Nat) : Option Instr := none

end Sys2Proof
end

