-- ==== Sys2Proof/Config.lean ====
section
/-! DEFINITION. What the manual leaves to the surroundings of the part at reset, each named in the assumption log. -/
namespace Sys2Proof

/-- DESIGN CHOICE (unsafe, log entry 1): the straps read by the reset that made `State.reset`; R38 gives the
address as whatever the straps say, and RESET carries them as its operand. -/
def Config.resetStraps : BitVec 2 := 0

/-- DESIGN CHOICE (unsafe, log entry 2): whether the six transceivers have signal at `State.reset`; no rule says. -/
def Config.resetSignal : Bool := true

/-- FREE VALUE (DESIGN CHOICE, log entry 3): the return-channel bits that the part sends in the 16-bit setting of an
output for a source that is NONE. R148 says that these bits of a request are ignored and R150 gives the setting "in the
16-bit form of the request"; no rule says what they then hold (the port bits are R189's party code for NONE). The value
may depend on the channel bits the request carried, and nothing can be proved of it. -/
opaque Config.absentSourceChannel : BitVec 4 → BitVec 4

end Sys2Proof
end

