-- ==== Sys2Proof/Machine/State.lean ====
section
/-! DEFINITION. The state of the LS-648: every record, buffer, counter, mode and pin the manual gives the part,
the marks the model keeps within one boundary, and the queue of commands that wait. -/
namespace Sys2Proof

/-- One value for each desk port. -/
structure PerPort (α : Type) where
  p0 : α
  p1 : α
  p2 : α
deriving DecidableEq, Repr

/-- One value for each path of a port. -/
structure PerPath (α : Type) where
  a : α
  b : α
deriving DecidableEq, Repr

/-- One value for each alarm line. -/
structure PerLine (α : Type) where
  line0 : α
  line1 : α
deriving DecidableEq, Repr

/-- The entry of a port. -/
def PerPort.get {α : Type} (t : PerPort α) : Port → α
  | .p0 => t.p0 | .p1 => t.p1 | .p2 => t.p2

/-- The table with one port's entry replaced. -/
def PerPort.set {α : Type} (t : PerPort α) (p : Port) (v : α) : PerPort α :=
  match p with
  | .p0 => { t with p0 := v } | .p1 => { t with p1 := v } | .p2 => { t with p2 := v }

/-- The table built port by port. -/
def PerPort.of {α : Type} (f : Port → α) : PerPort α := ⟨f .p0, f .p1, f .p2⟩

/-- The entry of a path. -/
def PerPath.get {α : Type} (t : PerPath α) : PathName → α
  | .a => t.a | .b => t.b

/-- The table with one path's entry replaced. -/
def PerPath.set {α : Type} (t : PerPath α) (x : PathName) (v : α) : PerPath α :=
  match x with
  | .a => { t with a := v } | .b => { t with b := v }

/-- The table built path by path. -/
def PerPath.of {α : Type} (f : PathName → α) : PerPath α := ⟨f .a, f .b⟩

/-- The entry of an alarm line. -/
def PerLine.get {α : Type} (t : PerLine α) : Line → α
  | .line0 => t.line0 | .line1 => t.line1

/-- The table with one line's entry replaced. -/
def PerLine.set {α : Type} (t : PerLine α) (l : Line) (v : α) : PerLine α :=
  match l with
  | .line0 => { t with line0 := v } | .line1 => { t with line1 := v }

/-- The table built line by line. -/
def PerLine.of {α : Type} (f : Line → α) : PerLine α := ⟨f .line0, f .line1⟩

/-- A table with the entry at an index replaced. -/
def vset {α : Type} {n : Nat} (v : Vector α n) (i : Fin n) (x : α) : Vector α n := v.set i.val x i.isLt

namespace Machine

/-! ## Stage link (chapter 1) -/

/-- The five states of a path (chapter 1, "Judging a path"). -/
inductive PathState where
  | disabled | dark | acquire | up | degraded
deriving DecidableEq, Repr

/-- Where a receiver stands in its serial stream (R1): hunting for sync, inside a frame, or examining the word that
follows a completed frame. -/
inductive RxPhase where
  | hunting | inFrame | nextWord
deriving DecidableEq, Repr

/-- A frame as classified and extracted at its arrival (R2). -/
structure Copy where
  frameNo   : BitVec 12
  good      : Bool
  path      : PathName
  mask      : BitVec 16
  talkValid : Bool
  control   : Vector Word 4
  ret       : Vector SampleFrame 16
  talk      : SampleFrame
deriving DecidableEq, Repr

/-- One path receiver (R3 to R7): state, place in the stream, interval record, good count, miss run, degrade block,
acquisition frame. -/
structure PathRec where
  state        : PathState
  rx           : RxPhase
  arrived      : Bool
  good         : Bool
  suspect      : Bool
  goodCount    : Nat
  missRun      : Nat
  blockCount   : Nat
  suspectCount : Nat
  acq          : Option Copy
deriving DecidableEq, Repr

/-- One port's merge (R13 to R22). The slot at index d is the one for frame P + d; `none` is EMPTY, and a stored copy
is GOOD or SUSPECT by its own class. -/
structure Merge where
  slots     : Vector (Option Copy) 4
  playNo    : BitVec 12
  hunting   : Bool
  missRun   : Nat
  emptyRun  : Nat
  heldRet   : Vector Sample 16
  heldTalk  : Sample
  mask      : BitVec 16
  talkValid : Bool
  slips     : BitVec 16
  lates     : BitVec 16
  dups      : BitVec 16
  resyncs   : BitVec 16
  lastPath  : Option PathName
deriving DecidableEq, Repr

/-- What a merge hands on at a boundary (R18): the return audio, and the desk talk frame formed from the talk samples
and the talk-valid in force (R176). -/
structure Handoff where
  ret  : Vector SampleFrame 16
  talk : SampleFrame
deriving DecidableEq, Repr

/-! ## Stage clock (chapter 2) -/

/-- The four clock states of a port (chapter 2, "Clock states"). -/
inductive ClockState where
  | unusable | checking | good | bad
deriving DecidableEq, Repr

/-- The measuring interval of a port (R27, R28): none, waiting for the end of the first recovered frame period, or in
progress. -/
inductive Interval where
  | none | awaiting | running
deriving DecidableEq, Repr

/-- One port's clock monitor (R25 to R30). -/
structure Monitor where
  state    : ClockState
  run      : Nat
  ref      : Option PathName
  last     : Nat
  interval : Interval
deriving DecidableEq, Repr

/-- The stage clock: the selected source (none is LOCAL), whether a switch has fallen since the last boundary (R26),
and the three monitors. -/
structure Clock where
  source   : Option Port
  switched : Bool
  monitors : PerPort Monitor
deriving DecidableEq, Repr

/-! ## Control lane (chapter 3) -/

/-- The ten reply codes (R47), in the order of their numbers (chapter 12). -/
inductive Code where
  | done | clamped | deferred | owned | tooOld | notOwner | badIndex | badValue | badLength | unknown
deriving DecidableEq, Repr

/-- An assembly record that is ASSEMBLING (R39). -/
structure Assembly where
  unit   : BitVec 3
  kind   : BitVec 6
  length : Nat
  tag    : BitVec 8
  arg    : BitVec 9
  forUs  : Bool
  count  : Nat
  body   : List Payload
deriving DecidableEq, Repr

/-- A queued reply (R48): its kind and tag as requested, its code, its BODY words. -/
structure Reply where
  kind : BitVec 6
  tag  : BitVec 8
  code : Code
  body : List Payload
deriving DecidableEq, Repr

/-- One port's lanes: the assembly record (none is EMPTY), the reply queue, oldest first, and the sent count of the
reply at its head (R49). -/
structure Lane where
  asm   : Option Assembly
  queue : List Reply
  sent  : Nat
deriving DecidableEq, Repr

/-! ## Presence and ownership (chapter 4) -/

/-- One port's presence state and timer (R55). `held` is the timeout code that a write at the boundary now falling has
replaced: the count of that boundary still compares with it, and the new one holds from the next boundary on (R61). -/
structure Presence where
  present : Bool
  running : Bool
  elapsed : Nat
  held    : Option (BitVec 2) := none
deriving DecidableEq, Repr

/-- The ownership table (R64); none is NONE. -/
structure Owners where
  chan : Vector (Option Port) 48
  out  : Vector (Option Port) 16
deriving DecidableEq, Repr

/-! ## Head amplifiers (chapter 5) -/

/-- The five phantom states of a channel. -/
inductive PhState where
  | off | rampUp | on | rampDown | shed
deriving DecidableEq, Repr

/-- A pending step (R76). -/
structure Step where
  gain   : Int
  pad    : Bool
  waited : Nat
deriving DecidableEq, Repr

/-- The analog setting last sent to a channel's front-end module (R72). -/
structure ModuleSetting where
  gain : Int
  pad  : Bool
  feed : Bool
deriving DecidableEq, Repr

/-- One channel's record (chapter 5, table of the channel record) and the setting its module was last sent. -/
structure Channel where
  gain    : Int
  pad     : Bool
  eff     : Int
  pending : Option Step
  request : Bool
  phantom : PhState
  mute    : Nat
  last    : Sample
  sent    : ModuleSetting
deriving DecidableEq, Repr

/-- One port's meter record for a channel (R88, R89). -/
structure Meter where
  peak     : Nat
  clip     : Bool
  sendClip : Bool
deriving DecidableEq, Repr

/-! ## Gain tracking (chapter 6) -/

/-- One tracking record (R92). -/
structure Track where
  trim     : Int
  anchor   : Int
  tracking : Bool
  gain     : Int
  limited  : Bool
  period   : Int
deriving DecidableEq, Repr

/-! ## Phantom supply monitor (chapter 7) -/

/-- The four bank states. -/
inductive BankState where
  | normal | holdoff | retry | lockedOut
deriving DecidableEq, Repr

/-- One bank (chapter 7, "Bank states"). -/
structure Bank where
  state : BankState
  trips : Nat
  last  : Nat
  timer : Nat
deriving DecidableEq, Repr

/-- The phantom monitor: its banks and the bank whose conversion is in progress (R111). -/
structure Phantom where
  banks : Vector Bank 6
  scan  : BankId
deriving DecidableEq, Repr

/-! ## Journal and settings (chapter 8) -/

/-- The seven kinds of journal entry (R126). -/
inductive EntryKind where
  | gain | phantom | ownerCh | ownerOut | bank | output | setting
deriving DecidableEq, Repr

/-- One journal entry (R126); `author` none is STAGE. -/
structure Entry where
  gen     : BitVec 32
  kind    : EntryKind
  subject : BitVec 8
  author  : Option Port
  value   : BitVec 16
deriving DecidableEq, Repr

/-- The generation and the journal, oldest entry first (R125, R126). -/
structure Journal where
  gen     : BitVec 32
  entries : List Entry
deriving DecidableEq, Repr

/-- A port's policy at presence expiry (R57). -/
inductive Policy where
  | release | report
deriving DecidableEq, Repr

/-- A KEY_CONFIG item (R133). -/
structure KeyConfig where
  enabled : Bool
  latch   : Bool
  ports   : PerPort Bool
deriving DecidableEq, Repr

/-- The stage settings (R133). An ALARM_MAP item of none is NONE. -/
structure Settings where
  clockPriority : List Port
  pathEnable    : PerPort (PerPath Bool)
  timeout       : PerPort (BitVec 2)
  policy        : PerPort Policy
  trip          : BitVec 2
  keys          : Vector KeyConfig 4
  talkSource    : Chan
  talkLevel     : Int
  duckDepth     : Int
  alarmMap      : Vector (Option Line) 12
deriving DecidableEq, Repr

/-! ## Outputs (chapter 9) -/

/-- A source that is not NONE: a port and a return channel (R139). -/
structure Source where
  port : Port
  ch   : Fin 16
deriving DecidableEq, Repr

/-- What an output does when its primary fails (R143). -/
inductive FailAction where
  | mute | backup | hold
deriving DecidableEq, Repr

/-- The source an output is moving toward (R139). -/
inductive Selection where
  | primary | backup | silent
deriving DecidableEq, Repr

/-- One output's record (R139), the 16 bits of the request that gave its setting (R148; bits a request does not use
are kept only for log entry 3), and the 8 samples its module was last sent (R140). -/
structure Output where
  primary : Option Source
  backup  : Option Source
  action  : FailAction
  sel     : Selection
  failed  : Bool
  holdoff : Nat
  wp      : Nat
  wb      : Nat
  duck    : Nat
  asked   : BitVec 16
  frame   : SampleFrame
deriving DecidableEq, Repr

/-! ## Talkback (chapter 10) -/

/-- The four key states (chapter 10, "Keys"). -/
inductive KeyState where
  | disabled | arming | released | pressed
deriving DecidableEq, Repr

/-- What talkback holds for a key beside its KEY_CONFIG: state, debounced level (`down`), stability count, talk
toggle. -/
structure Key where
  state  : KeyState
  down   : Bool
  stab   : Nat
  toggle : Bool
deriving DecidableEq, Repr

/-- One entry of the call table: clear or pending, and its acknowledged mark (chapter 10, "Calls"). `ending` tells that it
was acknowledged ahead of its port's expiry at the boundary now falling, whose presence work clears it (R174). -/
structure Call where
  pending : Bool
  acked   : Bool
  ending  : Bool := false
deriving DecidableEq, Repr

/-! ## Faults (chapter 11) -/

/-- The fault block: the sticky copies, the conditions each port has active, the stretch timers and whether each line
is driven. A fault mask has kind j at bit j (R189). -/
structure Faults where
  sticky  : PerPort (BitVec 12)
  active  : PerPort (BitVec 12)
  stretch : PerLine Nat
  driven  : PerLine Bool
deriving DecidableEq, Repr

/-! ## Upstream frames (R23) -/

/-- An upstream frame as built (R23, chapter 12): the words after the sync word, samples apart. -/
structure UpFrame where
  header  : Word
  status0 : Word
  status1 : Word
  replies : Vector Word 4
  mic     : Vector SampleFrame 48
  talk    : SampleFrame
  check   : BitVec 16
deriving DecidableEq, Repr

/-- The frame a port sent at the last boundary, if any since reset, and the paths it was sent on. -/
structure Transmit where
  frame : Option UpFrame
  on    : PerPath Bool
deriving DecidableEq, Repr

/-! ## Within one boundary -/

/-- What the part has taken in for the boundary now falling, and the marks of that boundary: the captured frames, the
key lines, the conversion's code, each port's hand-off (R140), whether a port went ONLINE at this boundary (R11), and
the units of work already taken. -/
structure Latch where
  captured : Vector SampleFrame 48
  keyLow   : Vector Bool 4
  rail     : BitVec 10
  handoff  : PerPort Handoff
  cameUp   : PerPort Bool
  taken    : List Work
deriving DecidableEq, Repr

/-- The LS-648. INVENTORY.md, "State", lists every field with its rule and its reset value. -/
structure State where
  /-- the reset input: true is high (chapter 0, "Local lines") -/
  rstn : Bool
  /-- the unit address (R38) -/
  unitAddr : BitVec 2
  /-- whether each transceiver has signal (R1, R25) -/
  signal : PerPort (PerPath Bool)
  /-- the six path receivers (R3 to R9) -/
  paths : PerPort (PerPath PathRec)
  /-- the three port merges (R13 to R22) -/
  merges : PerPort Merge
  /-- the stage clock (chapter 2) -/
  clock : Clock
  /-- the stage frame number (R24) -/
  frameNo : BitVec 12
  /-- the control lanes (chapter 3) -/
  lanes : PerPort Lane
  /-- presence (R55) -/
  presence : PerPort Presence
  /-- the ownership table (R64) -/
  owners : Owners
  /-- the channel records (chapter 5) -/
  channels : Vector Channel 48
  /-- the meter records (R88) -/
  meters : PerPort (Vector Meter 48)
  /-- the tracking table (R92) -/
  tracks : PerPort (Vector Track 48)
  /-- the phantom supply monitor (chapter 7) -/
  phantom : Phantom
  /-- the change journal (R125, R126) -/
  journal : Journal
  /-- the stage settings (R133) -/
  settings : Settings
  /-- the output records (R139) -/
  outputs : Vector Output 16
  /-- the key records (chapter 10) -/
  keys : Vector Key 4
  /-- the call table (chapter 10) -/
  calls : PerPort (Vector Call 4)
  /-- the talk masks (R175) -/
  talkMask : PerPort (BitVec 16)
  /-- the fault block (chapter 11) -/
  faults : Faults
  /-- the upstream frames last sent (R23) -/
  sent : PerPort Transmit
  /-- the boundary now falling -/
  latch : Latch
  /-- the commands that wait, first in, first out -/
  pending : List Instr
deriving DecidableEq, Repr

/-- The manual gives the part no event after which it stops, so there is no fault. -/
inductive Fault where
deriving DecidableEq, Repr

/-- Why a command is refused. -/
inductive Refusal where
  /-- Raised by `exec` alone, for a command that has no meaning yet (safe: the machine stops there). -/
  | notModelled (mnemonic : String)
deriving DecidableEq, Repr

/-! ## Replacing one field -/

/-- The state with `rstn` replaced. -/
def State.withRstn (s : State) (v : Bool) : State := { s with rstn := v }

/-- The state with `unitAddr` replaced. -/
def State.withUnitAddr (s : State) (v : BitVec 2) : State := { s with unitAddr := v }

/-- The state with `signal` replaced. -/
def State.withSignal (s : State) (v : PerPort (PerPath Bool)) : State := { s with signal := v }

/-- The state with `paths` replaced. -/
def State.withPaths (s : State) (v : PerPort (PerPath PathRec)) : State := { s with paths := v }

/-- The state with `merges` replaced. -/
def State.withMerges (s : State) (v : PerPort Merge) : State := { s with merges := v }

/-- The state with `clock` replaced. -/
def State.withClock (s : State) (v : Clock) : State := { s with clock := v }

/-- The state with `frameNo` replaced. -/
def State.withFrameNo (s : State) (v : BitVec 12) : State := { s with frameNo := v }

/-- The state with `lanes` replaced. -/
def State.withLanes (s : State) (v : PerPort Lane) : State := { s with lanes := v }

/-- The state with `presence` replaced. -/
def State.withPresence (s : State) (v : PerPort Presence) : State := { s with presence := v }

/-- The state with `owners` replaced. -/
def State.withOwners (s : State) (v : Owners) : State := { s with owners := v }

/-- The state with `channels` replaced. -/
def State.withChannels (s : State) (v : Vector Channel 48) : State := { s with channels := v }

/-- The state with `meters` replaced. -/
def State.withMeters (s : State) (v : PerPort (Vector Meter 48)) : State := { s with meters := v }

/-- The state with `tracks` replaced. -/
def State.withTracks (s : State) (v : PerPort (Vector Track 48)) : State := { s with tracks := v }

/-- The state with `phantom` replaced. -/
def State.withPhantom (s : State) (v : Phantom) : State := { s with phantom := v }

/-- The state with `journal` replaced. -/
def State.withJournal (s : State) (v : Journal) : State := { s with journal := v }

/-- The state with `settings` replaced. -/
def State.withSettings (s : State) (v : Settings) : State := { s with settings := v }

/-- The state with `outputs` replaced. -/
def State.withOutputs (s : State) (v : Vector Output 16) : State := { s with outputs := v }

/-- The state with `keys` replaced. -/
def State.withKeys (s : State) (v : Vector Key 4) : State := { s with keys := v }

/-- The state with `calls` replaced. -/
def State.withCalls (s : State) (v : PerPort (Vector Call 4)) : State := { s with calls := v }

/-- The state with `talkMask` replaced. -/
def State.withTalkMask (s : State) (v : PerPort (BitVec 16)) : State := { s with talkMask := v }

/-- The state with `faults` replaced. -/
def State.withFaults (s : State) (v : Faults) : State := { s with faults := v }

/-- The state with `sent` replaced. -/
def State.withSent (s : State) (v : PerPort Transmit) : State := { s with sent := v }

/-- The state with `latch` replaced. -/
def State.withLatch (s : State) (v : Latch) : State := { s with latch := v }

/-- The state with `pending` replaced. -/
def State.withPending (s : State) (v : List Instr) : State := { s with pending := v }

/-! ## Reset -/

/-- A path receiver that is DARK with everything clear (R9). -/
def PathRec.dark : PathRec :=
  { state := .dark, rx := .hunting, arrived := false, good := false, suspect := false, goodCount := 0, missRun := 0,
    blockCount := 0, suspectCount := 0, acq := none }

/-- Eight zero samples. -/
def zeroFrame : SampleFrame := Vector.replicate 8 0

/-- A merge after reset (R13, R22). -/
def Merge.atReset : Merge :=
  { slots := Vector.replicate 4 none, playNo := 0, hunting := false, missRun := 4, emptyRun := 0,
    heldRet := Vector.replicate 16 0, heldTalk := 0, mask := 0, talkValid := false,
    slips := 0, lates := 0, dups := 0, resyncs := 0, lastPath := none }

/-- A hand-off of zero audio. -/
def Handoff.zero : Handoff := { ret := Vector.replicate 16 zeroFrame, talk := zeroFrame }

/-- A clock monitor after reset (R37). -/
def Monitor.atReset : Monitor := { state := .unusable, run := 0, ref := none, last := 0, interval := .none }

/-- A channel after reset (R91), its module sent the reset setting (R72). -/
def Channel.atReset : Channel :=
  { gain := 20, pad := false, eff := 20, pending := none, request := false, phantom := .off, mute := 0, last := 0,
    sent := { gain := 20, pad := false, feed := false } }

/-- A tracking record after reset (R109). -/
def Track.atReset : Track := { trim := 0, anchor := 20, tracking := false, gain := 0, limited := false, period := 0 }

/-- The settings after reset (R133). -/
def Settings.atReset : Settings :=
  { clockPriority := [.p0, .p1, .p2], pathEnable := .of fun _ => .of fun _ => true, timeout := .of fun _ => 2,
    policy := .of fun _ => .release, trip := 1,
    keys := Vector.replicate 4 { enabled := false, latch := false, ports := .of fun _ => false },
    talkSource := 47, talkLevel := 0, duckDepth := 24, alarmMap := Vector.replicate 12 none }

/-- An output after reset (R161). -/
def Output.atReset : Output :=
  { primary := none, backup := none, action := .mute, sel := .silent, failed := false, holdoff := 0, wp := 0, wb := 0,
    duck := 0, asked := 0, frame := zeroFrame }

/-- The conditions active at reset (R188): PATH_LOSS, CLOCK_FALLBACK and DESK_ABSENT, kinds 0, 2 and 5. -/
def resetConditions : BitVec 12 := 0b000000100101

/-- The machine right after reset: RSTN high and every block as its chapter gives it (R9, R22, R37, R39, R49, R55,
R64, R91, R109, R124, R138, R161, R178, R188), nothing sent, no boundary in progress, no command waiting. -/
def State.reset : State :=
  { rstn := true
    unitAddr := Config.resetStraps
    signal := .of fun _ => .of fun _ => Config.resetSignal
    paths := .of fun _ => .of fun _ => .dark
    merges := .of fun _ => .atReset
    clock := { source := none, switched := false, monitors := .of fun _ => .atReset }
    frameNo := 0
    lanes := .of fun _ => { asm := none, queue := [], sent := 0 }
    presence := .of fun _ => { present := false, running := false, elapsed := 0 }
    owners := { chan := Vector.replicate 48 none, out := Vector.replicate 16 none }
    channels := Vector.replicate 48 .atReset
    meters := .of fun _ => Vector.replicate 48 { peak := 0, clip := false, sendClip := false }
    tracks := .of fun _ => Vector.replicate 48 .atReset
    phantom := { banks := Vector.replicate 6 { state := .normal, trips := 0, last := 0, timer := 0 }, scan := 0 }
    journal := { gen := 0, entries := [] }
    settings := .atReset
    outputs := Vector.replicate 16 .atReset
    keys := Vector.replicate 4 { state := .disabled, down := false, stab := 0, toggle := false }
    calls := .of fun _ => Vector.replicate 4 { pending := false, acked := false }
    talkMask := .of fun _ => 0
    faults := { sticky := .of fun _ => resetConditions, active := .of fun _ => resetConditions,
                stretch := .of fun _ => 0, driven := .of fun _ => false }
    sent := .of fun _ => { frame := none, on := .of fun _ => false }
    latch := { captured := Vector.replicate 48 zeroFrame, keyLow := Vector.replicate 4 false, rail := 0,
               handoff := .of fun _ => .zero, cameUp := .of fun _ => false, taken := [] }
    pending := [] }

end Machine

end Sys2Proof
end

