-- ==== Sys2Proof/Machine/Operands.lean ====
section
/-! DEFINITION. Reading and writing the fields of frames, control words, messages and payloads (chapter 12), and the
frame check (R2). -/
namespace Sys2Proof.Machine

/-! ## Fields (R189) -/

/-- The unsigned field at bits hi–lo of a word. -/
def bitsAt (hi lo w : Nat) : Nat := w / 2 ^ lo % 2 ^ (hi + 1 - lo)

/-- The bit at a position of a word. -/
def bitAt (i w : Nat) : Bool := w.testBit i

/-- A number read as a two's-complement number of the given width (R189, "Signed fields"). -/
def signedOf (width n : Nat) : Int := (BitVec.ofNat width n).toInt

/-- A number placed at bits hi–lo; bits beyond the field are dropped. -/
def fieldAt (hi lo n : Nat) : Nat := n % 2 ^ (hi + 1 - lo) * 2 ^ lo

/-- A signed number placed at bits hi–lo in two's complement. -/
def signedAt (hi lo : Nat) (n : Int) : Nat := (n % (2 ^ (hi + 1 - lo) : Nat)).toNat * 2 ^ lo

/-- A flag placed at a bit. -/
def flagAt (i : Nat) (b : Bool) : Nat := b.toNat * 2 ^ i

/-- A BODY payload made of placed fields, every unnamed bit zero. -/
def payload (fields : List Nat) : Payload := BitVec.ofNat 30 fields.sum

/-- A word made of placed fields, every unnamed bit zero. -/
def wordOf (fields : List Nat) : Word := BitVec.ofNat 32 fields.sum

/-! ## Codes of names (R189, chapter 12) -/

/-- The ports in order. -/
def ports : List Port := [.p0, .p1, .p2]

/-- The paths in order. -/
def pathNames : List PathName := [.a, .b]

/-- The number of a port. -/
def portNo : Port → Nat
  | .p0 => 0 | .p1 => 1 | .p2 => 2

/-- The party code: a port's number, and 3 for NONE, STAGE or LOCAL. -/
def partyCode : Option Port → Nat
  | some p => portNo p
  | none => 3

/-- The port a party code names. -/
def portOf : Nat → Option Port
  | 0 => some .p0 | 1 => some .p1 | 2 => some .p2 | _ => none

/-- A reference path or last delivered path in READ_CLOCK: 0 A, 1 B, 3 none. -/
def pathCode : Option PathName → Nat
  | some .a => 0 | some .b => 1 | none => 3

/-- The number of a reply code (chapter 12, "Reply codes"). -/
def codeNo : Code → Nat
  | .done => 0 | .clamped => 1 | .deferred => 2 | .owned => 3 | .tooOld => 4
  | .notOwner => 5 | .badIndex => 6 | .badValue => 7 | .badLength => 8 | .unknown => 9

/-- The number of a phantom state (phantom word). -/
def phantomNo : PhState → Nat
  | .off => 0 | .rampUp => 1 | .on => 2 | .rampDown => 3 | .shed => 4

/-- The number of a bank state (bank word). -/
def bankNo : BankState → Nat
  | .normal => 0 | .holdoff => 1 | .retry => 2 | .lockedOut => 3

/-- The number of a path state (READ_CLOCK). -/
def pathStateNo : PathState → Nat
  | .disabled => 0 | .dark => 1 | .acquire => 2 | .up => 3 | .degraded => 4

/-- The number of a clock state (READ_CLOCK). -/
def clockStateNo : ClockState → Nat
  | .unusable => 0 | .checking => 1 | .good => 2 | .bad => 3

/-- The number of a selection (SET_OUTPUT reply). -/
def selectionNo : Selection → Nat
  | .primary => 0 | .backup => 1 | .silent => 2

/-- The number of a fail action (SET_OUTPUT setting). -/
def actionNo : FailAction → Nat
  | .mute => 0 | .backup => 1 | .hold => 2

/-- The number of a journal entry kind. -/
def entryKindNo : EntryKind → Nat
  | .gain => 0 | .phantom => 1 | .ownerCh => 2 | .ownerOut => 3 | .bank => 4 | .output => 5 | .setting => 6

/-- A fault kind's place in the table of chapter 11, which numbers the fault masks and the ALARM_MAP items. -/
def faultNo : FaultKind → Fin 12
  | .pathLoss => 0 | .pathDegraded => 1 | .clockFallback => 2 | .phantomShed => 3 | .outputFailover => 4
  | .deskAbsent => 5 | .trackLimit => 6 | .slip => 7 | .resync => 8 | .clockReject => 9 | .controlDrop => 10
  | .replyOverrun => 11

/-- The mask with one fault kind's flag. -/
def faultBit (k : FaultKind) : BitVec 12 := BitVec.ofNat 12 (2 ^ (faultNo k).val)

/-- The mask of the seven condition kinds: kinds 0 to 6 (chapter 11). -/
def conditionKinds : BitVec 12 := 0x07F

/-! ## Message kinds (chapter 12, "Kinds and lengths") -/

/-- The 26 kinds the part knows. -/
inductive Kind where
  | keepalive | claimChannels | releaseChannels | claimOutputs | releaseOutputs | readOwners | setGain | setPad
  | setPhantom | readMeters | setTrim | setTracking | readTracking | phantomReset | readPhantom | readChanges
  | readChannels | writeSetting | readSettings | readClock | setOutput | readOutputs | talk | ackCall | clearFaults
  | readFaults
deriving DecidableEq, Repr

/-- The code of a kind in the kind field. -/
def kindCode : Kind → BitVec 6
  | .keepalive => 1 | .claimChannels => 2 | .releaseChannels => 3 | .claimOutputs => 4 | .releaseOutputs => 5
  | .readOwners => 6 | .setGain => 7 | .setPad => 8 | .setPhantom => 9 | .readMeters => 10 | .setTrim => 11
  | .setTracking => 12 | .readTracking => 13 | .phantomReset => 14 | .readPhantom => 15 | .readChanges => 16
  | .readChannels => 17 | .writeSetting => 18 | .readSettings => 19 | .readClock => 20 | .setOutput => 21
  | .readOutputs => 22 | .talk => 23 | .ackCall => 24 | .clearFaults => 25 | .readFaults => 26

/-- The kind that a kind field names, if the part knows it (R46, test 1). -/
def kindOf (code : BitVec 6) : Option Kind :=
  match code.toNat with
  | 1 => some .keepalive | 2 => some .claimChannels | 3 => some .releaseChannels | 4 => some .claimOutputs
  | 5 => some .releaseOutputs | 6 => some .readOwners | 7 => some .setGain | 8 => some .setPad
  | 9 => some .setPhantom | 10 => some .readMeters | 11 => some .setTrim | 12 => some .setTracking
  | 13 => some .readTracking | 14 => some .phantomReset | 15 => some .readPhantom | 16 => some .readChanges
  | 17 => some .readChannels | 18 => some .writeSetting | 19 => some .readSettings | 20 => some .readClock
  | 21 => some .setOutput | 22 => some .readOutputs | 23 => some .talk | 24 => some .ackCall
  | 25 => some .clearFaults | 26 => some .readFaults
  | _ => none

/-! ## Messages -/

/-- BODY word i of a message, as a number; zero where the message has no such word. -/
def bodyWord (m : Msg) (i : Nat) : Nat := (m.body.getD i 0).toNat

/-- Bits 15–0 of the first BODY word: the value of SET_GAIN, SET_PAD, SET_PHANTOM, SET_TRIM, SET_OUTPUT,
WRITE_SETTING, TALK and the output masks. -/
def value16 (m : Msg) : BitVec 16 := BitVec.ofNat 16 (bodyWord m 0)

/-- The count field, bits 5–0 of the first BODY word. -/
def countField (m : Msg) : Nat := bitsAt 5 0 (bodyWord m 0)

/-- Bits 9–8 of the first BODY word: the state of SET_TRACKING, the port of READ_TRACKING. -/
def sideField (m : Msg) : Nat := bitsAt 9 8 (bodyWord m 0)

/-- The generation named by READ_CHANGES: the low 16 bits in the first BODY word, the high 16 bits in the second. -/
def namedGeneration (m : Msg) : BitVec 32 :=
  BitVec.ofNat 32 (bitsAt 15 0 (bodyWord m 1) * 65536 + bitsAt 15 0 (bodyWord m 0))

/-- The channels first to first + count − 1, in ascending index. -/
def chanRange (first count : Nat) : List Chan :=
  (List.finRange 48).filter fun c => first ≤ c.val && c.val < first + count

/-- The outputs first to first + count − 1, in ascending index. -/
def outRange (first count : Nat) : List OutId :=
  (List.finRange 16).filter fun o => first ≤ o.val && o.val < first + count

/-- The outputs whose flag is set in a mask, in ascending index. -/
def outsOf (mask : BitVec 16) : List OutId := (List.finRange 16).filter fun o => mask.getLsbD o.val

/-- The channels of a bank: 8b to 8b + 7, in ascending index (R72). -/
def bankChans (b : BankId) : List Chan := chanRange (8 * b.val) 8

/-- The bank of a channel (R72). -/
def bankOf (c : Chan) : BankId := ⟨c.val / 8, by have := c.isLt; omega⟩

/-- A 48-channel mask in two BODY words (R189, "Channel mask"). -/
def chanMaskWords (f : Chan → Bool) : List Payload :=
  let half (from_ : Nat) : Payload :=
    payload ((chanRange from_ 24).map fun c => flagAt (c.val - from_) (f c))
  [half 0, half 24]

/-- A 16-output mask. -/
def outMask (f : OutId → Bool) : BitVec 16 := BitVec.ofNat 16 ((List.finRange 16).map fun o => flagAt o.val (f o)).sum

/-- The number whose bit i is the flag of entry i. -/
def flagsOf (l : List Bool) : Nat := l.foldr (fun b n => 2 * n + b.toNat) 0

/-! ## The frame check (R2) -/

/-- One bit taken into the check register: shift left, and combine with 0x1021 if the bit taken differs from the bit
shifted out. -/
def crcBit (r : BitVec 16) (b : Bool) : BitVec 16 :=
  if b != r.msb then (r <<< 1) ^^^ 0x1021#16 else r <<< 1

/-- One word taken into the check register, most significant bit first. -/
def crcWord (r : BitVec 16) (w : Word) : BitVec 16 := (List.range 32).foldl (fun r i => crcBit r (w.getMsbD i)) r

/-- The check over words in frame order, from the preset 0xFFFF, with no final inversion. -/
def frameCheck (ws : List Word) : BitVec 16 := ws.foldl crcWord 0xFFFF#16

/-! ## Downstream frames (R2, chapter 12) -/

/-- The sync word (R1). -/
def syncWord : Word := 0xC3A55A3C#32

/-- A sample: the low 24 bits of its word; the upper 8 bits are ignored. -/
def sampleOf (w : Word) : Sample := w.setWidth 24

/-- Whether a downstream frame is good: the check over words 2 to 142 equals the low 16 bits of word 143. -/
def frameGood (f : Frame) : Bool := frameCheck ((f.toList.drop 1).take 141) == f[142].setWidth 16

/-- The copy a path receiver takes from a complete frame: its class and its content. -/
def copyOf (x : PathName) (f : Frame) : Copy :=
  let header := f[1].toNat
  { frameNo := BitVec.ofNat 12 (bitsAt 31 20 header)
    good := frameGood f
    path := x
    mask := BitVec.ofNat 16 (bitsAt 19 4 header)
    talkValid := bitAt 3 header
    control := Vector.ofFn fun i : Fin 4 => f[2 + i.val]'(by have := i.isLt; omega)
    ret := Vector.ofFn fun c : Fin 16 => Vector.ofFn fun i : Fin 8 =>
      sampleOf (f[6 + 8 * c.val + i.val]'(by have := c.isLt; have := i.isLt; omega))
    talk := Vector.ofFn fun i : Fin 8 => sampleOf (f[134 + i.val]'(by have := i.isLt; omega)) }

/-! ## Control words (chapter 12) -/

/-- The type of a control word: 0 IDLE, 1 HEAD, 2 BODY, 3 abort. -/
def wordType (w : Word) : Nat := bitsAt 31 30 w.toNat

/-- The assembly record a HEAD word begins (R40); `unitAddr` is this unit's address. -/
def headAssembly (unitAddr : BitVec 2) (w : Word) : Assembly :=
  let n := w.toNat
  let unit := bitsAt 29 27 n
  { unit := BitVec.ofNat 3 unit
    kind := BitVec.ofNat 6 (bitsAt 26 21 n)
    length := bitsAt 20 17 n
    tag := BitVec.ofNat 8 (bitsAt 16 9 n)
    arg := BitVec.ofNat 9 (bitsAt 8 0 n)
    forUs := unit == unitAddr.toNat || unit == 7
    count := 0
    body := [] }

/-- A reply as words: its HEAD and its BODY words (R48). -/
def replyWords (unitAddr : BitVec 2) (r : Reply) : List Word :=
  wordOf [fieldAt 31 30 1, fieldAt 29 27 unitAddr.toNat, fieldAt 26 21 r.kind.toNat, fieldAt 20 17 r.body.length,
          fieldAt 16 9 r.tag.toNat, fieldAt 8 5 (codeNo r.code)]
    :: r.body.map fun b => wordOf [fieldAt 31 30 2, fieldAt 29 0 b.toNat]

end Sys2Proof.Machine
end

