-- ==== Sys2Proof/Machine/Flags.lean ====
section
/-! DEFINITION. The fault flags (chapter 11): the condition kinds, the sticky copies, the alarm lines. A block's event
that can change a condition ends with `settle`, which is R180's report and R185's re-evaluation. -/
namespace Sys2Proof.Machine

/-! ## The conditions (chapter 11, table of kinds) -/

/-- Some path receiver satisfies a test. -/
def anyPath (s : State) (f : PathRec → Bool) : Bool :=
  ports.any fun p => pathNames.any fun x => f ((s.paths.get p).get x)

/-- PATH_LOSS: any enabled path is DARK or in ACQUIRE (R9). -/
def pathLossHolds (s : State) : Bool := anyPath s fun r => r.state == .dark || r.state == .acquire

/-- PATH_DEGRADED: any path is DEGRADED (R9). -/
def pathDegradedHolds (s : State) : Bool := anyPath s fun r => r.state == .degraded

/-- CLOCK_FALLBACK: the selected source is not the first entry of CLOCK_PRIORITY; never with an empty list (R31, R35). -/
def clockFallbackHolds (s : State) : Bool :=
  match s.settings.clockPriority with
  | [] => false
  | q :: _ => s.clock.source != some q

/-- PHANTOM_SHED: any bank is not NORMAL (R122). -/
def phantomShedHolds (s : State) : Bool := s.phantom.banks.toList.any fun b => b.state != .normal

/-- OUTPUT_FAILOVER: any output with a primary has a selection other than PRIMARY (R159). -/
def outputFailoverHolds (s : State) : Bool :=
  s.outputs.toList.any fun o => o.primary.isSome && o.sel != .primary

/-- A port has at least one path enabled in PATH_ENABLE. -/
def somePathEnabled (s : State) (p : Port) : Bool :=
  (s.settings.pathEnable.get p).a || (s.settings.pathEnable.get p).b

/-- DESK_ABSENT: any port that has a path enabled is ABSENT (R63). -/
def deskAbsentHolds (s : State) : Bool := ports.any fun p => somePathEnabled s p && !(s.presence.get p).present

/-- TRACK_LIMIT for a port: any of its limited flags is set (R108). -/
def trackLimitHolds (s : State) (p : Port) : Bool := (s.tracks.get p).toList.any fun t => t.limited

/-- Whether a kind's condition holds for a port; an event kind has no condition. -/
def conditionHolds (s : State) (p : Port) : FaultKind → Bool
  | .pathLoss => pathLossHolds s
  | .pathDegraded => pathDegradedHolds s
  | .clockFallback => clockFallbackHolds s
  | .phantomShed => phantomShedHolds s
  | .outputFailover => outputFailoverHolds s
  | .deskAbsent => deskAbsentHolds s
  | .trackLimit => trackLimitHolds s p
  | .slip | .resync | .clockReject | .controlDrop | .replyOverrun => false

/-- The twelve kinds in the order of the table. -/
def faultKinds : List FaultKind :=
  [.pathLoss, .pathDegraded, .clockFallback, .phantomShed, .outputFailover, .deskAbsent, .trackLimit, .slip, .resync,
   .clockReject, .controlDrop, .replyOverrun]

/-- The conditions that hold for a port, as a fault mask. -/
def conditionsOf (s : State) (p : Port) : BitVec 12 :=
  BitVec.ofNat 12 (faultKinds.map fun k => flagAt (faultNo k).val (conditionHolds s p k)).sum

/-! ## Alarm lines (R185) -/

/-- The line a kind is mapped to. -/
def lineOf (s : State) (k : FaultKind) : Option Line := s.settings.alarmMap[faultNo k]

/-- A line is driven while a condition kind mapped to it is active for any port or its stretch timer is above 0. -/
def lineDriven (s : State) (l : Line) : Bool :=
  0 < s.faults.stretch.get l
    || faultKinds.any fun k => lineOf s k == some l
        && ports.any fun p => (s.faults.active.get p).getLsbD (faultNo k).val

/-- Both lines re-evaluated. -/
def driveLines (s : State) : State := s.withFaults { s.faults with driven := .of (lineDriven s) }

/-! ## Reports (R180) -/

/-- Every condition re-evaluated: a kind that becomes active for a port sets its flag in that port's copy, a kind that
stays active sets nothing, a kind that becomes inactive leaves its flag; then the lines follow (R180, R181, R185). -/
def settle (s : State) : State :=
  driveLines <| s.withFaults { s.faults with
    sticky := .of fun p => s.faults.sticky.get p ||| (conditionsOf s p &&& ~~~ s.faults.active.get p)
    active := .of (conditionsOf s) }

/-- An event kind raised for the copies in its scope; a mapped line's stretch timer is set to 6000 (R180, R186). -/
def raiseFor (scope : Port → Bool) (k : FaultKind) (s : State) : State :=
  driveLines <| s.withFaults { s.faults with
    sticky := .of fun p => if scope p then s.faults.sticky.get p ||| faultBit k else s.faults.sticky.get p
    stretch := match lineOf s k with
      | some l => s.faults.stretch.set l 6000
      | none => s.faults.stretch }

/-- An event of scope "all ports": SLIP, RESYNC, CLOCK_REJECT. -/
def raiseAll (k : FaultKind) (s : State) : State := raiseFor (fun _ => true) k s

/-- An event of one port's scope: CONTROL_DROP, REPLY_OVERRUN. -/
def raiseAt (k : FaultKind) (p : Port) (s : State) : State := raiseFor (fun q => q == p) k s

end Sys2Proof.Machine
end

