-- ==== Sys2Proof/Machine/Ops.lean ====
section
/-! DEFINITION. The operations the blocks share: updates of one record, port state, the journal's append, the gain
function, source availability and the placing of outputs, the clock selection, going OFFLINE, answers and replies. -/
namespace Sys2Proof.Machine

/-! ## One record updated -/

/-- A path receiver replaced. -/
def setPath (p : Port) (x : PathName) (r : PathRec) (s : State) : State :=
  s.withPaths (s.paths.set p ((s.paths.get p).set x r))

/-- A path receiver. -/
def pathRec (s : State) (p : Port) (x : PathName) : PathRec := (s.paths.get p).get x

/-- A port's merge replaced. -/
def setMerge (p : Port) (m : Merge) (s : State) : State := s.withMerges (s.merges.set p m)

/-- A port's lane replaced. -/
def setLane (p : Port) (l : Lane) (s : State) : State := s.withLanes (s.lanes.set p l)

/-- A port's clock monitor replaced. -/
def setMonitor (p : Port) (m : Monitor) (s : State) : State :=
  s.withClock { s.clock with monitors := s.clock.monitors.set p m }

/-- A port's presence record replaced. -/
def setPresence (p : Port) (r : Presence) (s : State) : State := s.withPresence (s.presence.set p r)

/-- A channel's record replaced. -/
def setChannel (c : Chan) (ch : Channel) (s : State) : State := s.withChannels (vset s.channels c ch)

/-- A port's meter record of a channel replaced. -/
def setMeter (p : Port) (c : Chan) (m : Meter) (s : State) : State :=
  s.withMeters (s.meters.set p (vset (s.meters.get p) c m))

/-- A port's tracking record of a channel replaced. -/
def setTrack (p : Port) (c : Chan) (t : Track) (s : State) : State :=
  s.withTracks (s.tracks.set p (vset (s.tracks.get p) c t))

/-- A bank replaced. -/
def setBank (b : BankId) (k : Bank) (s : State) : State :=
  s.withPhantom { s.phantom with banks := vset s.phantom.banks b k }

/-- An output's record replaced. -/
def setOutputRec (o : OutId) (r : Output) (s : State) : State := s.withOutputs (vset s.outputs o r)

/-- A key's record replaced. -/
def setKey (k : KeyId) (r : Key) (s : State) : State := s.withKeys (vset s.keys k r)

/-- An entry of the call table replaced. -/
def setCall (p : Port) (k : KeyId) (c : Call) (s : State) : State :=
  s.withCalls (s.calls.set p (vset (s.calls.get p) k c))

/-- A channel's owner replaced. -/
def setChanOwner (c : Chan) (o : Option Port) (s : State) : State :=
  s.withOwners { s.owners with chan := vset s.owners.chan c o }

/-- An output's owner replaced. -/
def setOutOwner (o : OutId) (w : Option Port) (s : State) : State :=
  s.withOwners { s.owners with out := vset s.owners.out o w }

/-! ## Port state (R10) -/

/-- A path in UP or DEGRADED carries its port. -/
def carries (r : PathRec) : Bool := r.state == .up || r.state == .degraded

/-- How many paths carry a port: 0 OFFLINE, 1 SINGLE, 2 DUAL. -/
def portState (s : State) (p : Port) : Nat := (carries (pathRec s p .a)).toNat + (carries (pathRec s p .b)).toNat

/-- ONLINE is SINGLE or DUAL. -/
def online (s : State) (p : Port) : Bool := carries (pathRec s p .a) || carries (pathRec s p .b)

/-- The other path of a port. -/
def otherPath : PathName → PathName
  | .a => .b | .b => .a

/-! ## The journal (R125, R127) -/

/-- An entry appended: the generation rises by 1 and the entry takes it; a 33rd entry pushes the oldest out. -/
def appendEntry (kind : EntryKind) (subject : Nat) (author : Option Port) (value : BitVec 16) (s : State) : State :=
  let gen := s.journal.gen + 1
  let entries := s.journal.entries ++ [⟨gen, kind, BitVec.ofNat 8 subject, author, value⟩]
  s.withJournal { gen := gen, entries := entries.drop (entries.length - 32) }

/-- The value of an OWNER_CH or OWNER_OUT entry: the new owner's party code. -/
def ownerValue (o : Option Port) : BitVec 16 := BitVec.ofNat 16 (partyCode o)

/-- The low 16 bits of the generation (R125). -/
def genLow (s : State) : Nat := s.journal.gen.toNat % 65536

/-! ## Arithmetic (chapter 0, "Conventions"; R104, R105) -/

/-- A number brought into a range. -/
def clampTo (lo hi n : Int) : Int := max lo (min n hi)

/-- The quotient n / d rounded to the nearest integer, a half going away from zero. -/
def roundDiv (n : Int) (d : Nat) : Int := n.sign * ((2 * n.natAbs + d) / (2 * d) : Nat)

/-- A result brought into the 24-bit range, and whether it was outside (chapter 0, "Saturation and clamping"). A result
of exactly −8,388,608 is in the range and does not saturate: R105's remark that at +36 hdB any magnitude above 1,048,575
saturates would have it otherwise for the sample −1,048,576 (DESIGN CHOICE, log entry 24). -/
def saturate (n : Int) : Sample × Bool :=
  (BitVec.ofInt 24 (clampTo (-8388608) 8388607 n), decide (n < -8388608 ∨ 8388607 < n))

/-- The mantissas m_0 to m_11 of the gain function. -/
def mantissas : List Nat :=
  [32768, 34710, 36766, 38945, 41252, 43697, 46286, 49029, 51934, 55011, 58271, 61723]

/-- The gain function before saturation: with D = 12s + r, x × m_r / 2^(15 − s) rounded. -/
def gainExact (x D : Int) : Int :=
  roundDiv (x * (mantissas.getD (D % 12).toNat 0 : Nat)) (2 ^ (15 - D / 12).toNat)

/-- The gain function (R104, R105): the saturated sample, and whether it saturated. -/
def gainFunction (x : Sample) (D : Int) : Sample × Bool := saturate (gainExact x.toInt D)

/-- Eight samples passed through the gain function, and whether any saturated. -/
def scaleFrame (f : SampleFrame) (D : Int) : SampleFrame × Bool :=
  (Vector.ofFn fun i => (gainFunction f[i] D).1, (List.finRange 8).any fun i => (gainFunction f[i] D).2)

/-! ## Head-amplifier settings (R72) -/

/-- The feed is on while the phantom state is RAMP_UP or ON. -/
def feedOn : PhState → Bool
  | .rampUp | .on => true
  | .off | .rampDown | .shed => false

/-- A channel's complete analog setting sent to its module. -/
def sendSetting (ch : Channel) : Channel :=
  { ch with sent := { gain := ch.gain, pad := ch.pad, feed := feedOn ch.phantom } }

/-- The effective gain of a gain and a pad. -/
def effOf (gain : Int) (pad : Bool) : Int := if pad then gain - 40 else gain

/-! ## Tracking records (R93, R96) -/

/-- D and the limited flag recomputed from T, A and the channel's E. -/
def recompute (E : Int) (t : Track) : Track :=
  let raw := t.trim + t.anchor - E
  { t with gain := clampTo (-60) 36 raw, limited := decide (raw < -60 ∨ 36 < raw) }

/-- A record rebased: T takes the present D, A takes the present E. -/
def rebased (E : Int) (t : Track) : Track := recompute E { t with trim := t.gain, anchor := E }

/-- A port's record of a channel rebased. -/
def rebase (p : Port) (c : Chan) (s : State) : State :=
  setTrack p c (rebased s.channels[c].eff (s.tracks.get p)[c]) s

/-! ## Source availability and the outputs (R141 to R145) -/

/-- A source is available while its port is ONLINE and its flag is set in the mask in force; NONE never is. -/
def available (s : State) : Option Source → Bool
  | none => false
  | some src => online s src.port && (s.merges.get src.port).mask.getLsbD src.ch.val

/-- An output whose primary has become unavailable (R143); `backupAvail` judges its backup. -/
def losePrimary (backupAvail : Bool) (o : Output) : Output :=
  match o.sel, o.action with
  | .primary, .mute => { o with sel := .silent, failed := true, holdoff := 12000 }
  | .primary, .backup => { o with sel := if backupAvail then .backup else .silent, failed := true, holdoff := 12000 }
  | .primary, .hold => { o with failed := false, holdoff := 0 }
  | .backup, _ => { o with failed := true, holdoff := 12000 }
  | .silent, action =>
    if o.failed then
      { o with sel := if action == .backup && backupAvail then .backup else .silent, holdoff := 12000 }
    else o

/-- An output whose backup has become unavailable (R145). -/
def loseBackup (o : Output) : Output := if o.sel == .backup then { o with sel := .silent } else o

/-- An output whose backup has become available (R145); `primaryAvail` judges its primary. -/
def gainBackup (primaryAvail : Bool) (o : Output) : Output :=
  if o.sel == .silent && o.failed && o.action == .backup && !primaryAvail then { o with sel := .backup } else o

/-- One output after an event that led from state `old` to state `s`: first its primary's change, then its
backup's (R142). A primary that becomes available moves nothing (R144). -/
def followOutput (old s : State) (o : Output) : Output :=
  let o1 := if available old o.primary && !available s o.primary then losePrimary (available s o.backup) o else o
  if available old o.backup && !available s o.backup then loseBackup o1
  else if !available old o.backup && available s o.backup then gainBackup (available s o.primary) o1
  else o1

/-- Every output re-evaluated after an event that led from `old` to `s` (R142). -/
def followOutputs (old s : State) : State := s.withOutputs (Vector.ofFn fun i => followOutput old s s.outputs[i])

/-! ## Clock selection (R32) and the reference path (R25) -/

/-- The first entry of CLOCK_PRIORITY whose clock state is GOOD, or LOCAL. -/
def chooseSource (s : State) : Option Port :=
  s.settings.clockPriority.find? fun p => (s.clock.monitors.get p).state == .good

/-- The selection re-evaluated; a change of source is a switch (R26, R32). -/
def reselect (s : State) : State :=
  let src := chooseSource s
  s.withClock { s.clock with source := src, switched := s.clock.switched || src != s.clock.source }

/-- Whether a path's transceiver has signal. -/
def hasSignal (s : State) (p : Port) (x : PathName) : Bool := (s.signal.get p).get x

/-- A switch recorded if a port is the selected source (R26). -/
def switchIfSource (p : Port) (s : State) : State :=
  s.withClock { s.clock with switched := s.clock.switched || s.clock.source == some p }

/-- The interval a monitor begins on a reference path: none while the path gives no recovered periods (R25, R27). -/
def freshInterval (s : State) (p : Port) (x : PathName) : Interval :=
  if hasSignal s p x then .awaiting else .none

/-- The reference path moved to a path, which abandons the interval in progress and, for the selected port, is a
switch (R25, R26, R28). -/
def moveReference (p : Port) (x : PathName) (s : State) : State :=
  switchIfSource p <| setMonitor p
    { s.clock.monitors.get p with ref := some x, interval := freshInterval s p x } s

/-! ## Going OFFLINE (R12, R30, R49, R177) -/

/-- The OFFLINE form of a merge: P and the four counts keep their values. -/
def Merge.offline (m : Merge) : Merge :=
  { m with slots := Vector.replicate 4 none, hunting := false, emptyRun := 0, heldRet := Vector.replicate 16 0,
           heldTalk := 0, missRun := 4, mask := 0, talkValid := false }

/-- A port goes OFFLINE, in the event that led from `old` (in which it was ONLINE) to `s`. -/
def goOffline (old : State) (p : Port) (s : State) : State :=
  let s := setMerge p (s.merges.get p).offline s
  let s := setLane p { asm := none, queue := [], sent := 0 } s
  let s := setMonitor p
    { s.clock.monitors.get p with state := .unusable, run := 0, ref := none, interval := .none } s
  let s := s.withTalkMask (s.talkMask.set p 0)
  settle (reselect (followOutputs old s))

/-- A path that carries its port leaves UP or DEGRADED and its receiver becomes `r`: the reference path moves if it
was this one and the other still carries, and the port goes OFFLINE if none does (R10, R12, R25). -/
def leaveCarrying (p : Port) (x : PathName) (r : PathRec) (s : State) : State :=
  let s' := setPath p x r s
  if online s' p then
    if (s'.clock.monitors.get p).ref == some x then moveReference p (otherPath x) s' else s'
  else goOffline s p s'

/-! ## Answers and replies (R45 to R50) -/

/-- What the block that owns a kind makes of a message: the reply code, the payload, the state it leaves. -/
structure Answer where
  code  : Code
  body  : List Payload
  state : State

/-- A refused message changes nothing, and its reply carries no BODY words (R46). -/
def refuse (code : Code) (s : State) : Answer := ⟨code, [], s⟩

/-- The first test that fails gives the code; a message that passes all is executed (R46). -/
def judged (tests : List (Bool × Code)) (s : State) (execute : Answer) : Answer :=
  match tests.find? fun t => t.1 with
  | some t => refuse t.2 s
  | none => execute

/-- A complete message for us restarts the port's presence timer and makes it PRESENT (R45 step 1, R55, R56). -/
def heard (p : Port) (s : State) : State :=
  settle (setPresence p { present := true, running := true, elapsed := 0 } s)

/-- A reply appended to the tail of a port's queue; it is lost if its own execution took the port OFFLINE (R45, R49). -/
def enqueue (p : Port) (kind : BitVec 6) (tag : BitVec 8) (a : Answer) : State :=
  if online a.state p then
    let l := a.state.lanes.get p
    setLane p { l with queue := l.queue ++ [⟨kind, tag, a.code, a.body⟩] } a.state
  else a.state

/-- A complete message of a kind that has a reply: presence, room for the reply, execution (R45, R50). It does not touch
the port's assembly record: inside a playout `finishMessage` has emptied it (R41), and a message row of the table leaves
a record that is ASSEMBLING as it stands (DESIGN CHOICE, log entry 23). -/
def deliver (p : Port) (kind : BitVec 6) (m : Msg) (handler : Port → Msg → State → Answer) (s : State) : State :=
  let s1 := heard p s
  if 8 ≤ (s1.lanes.get p).queue.length then raiseAt .replyOverrun p s1
  else enqueue p kind m.tag (handler p m s1)

/-! ## Taking a command -/

/-- An event of the part while RSTN is high; while RSTN is low no event is taken (R37, R91, R109, R124, R162, R188). -/
def whileRunning (s : State) (f : State → State) : Host.Outcome State Fault Refusal :=
  .next (if s.rstn then f s else s)

/-- An event that comes about only under a condition; otherwise nothing happens. -/
def onlyIf (cond : Bool) (f : State → State) (s : State) : State := if cond then f s else s

/-- A message completes only at a playout of a port that is ONLINE (R44, R55, R177). -/
def fromDesk (p : Port) (f : State → State) (s : State) : State := onlyIf (online s p) f s

/-- A unit of boundary work has not been taken yet at the boundary now falling. -/
def fresh (w : Work) (s : State) : Bool := !s.latch.taken.contains w

/-- A unit of boundary work marked as taken. -/
def markTaken (w : Work) (s : State) : State := s.withLatch { s.latch with taken := w :: s.latch.taken }

end Sys2Proof.Machine
end

