-- ==== Sys2Proof/Machine/Presence.lean ====
section
/-! DEFINITION. Desk presence and the ownership table (chapter 4). -/
namespace Sys2Proof.Machine

/-! ## Presence (R55 to R63) -/

/-- The timeout of a PRESENCE_TIMEOUT code, in frames. -/
def timeoutFrames (code : BitVec 2) : Nat :=
  match code.toNat with
  | 0 => 1500 | 1 => 3000 | 2 => 6000 | _ => 12000

/-- A channel released at an expiry: owner NONE, an entry by STAGE (R58). -/
def releaseChanAtExpiry (p : Port) (s : State) (c : Chan) : State :=
  if s.owners.chan[c] == some p then
    appendEntry .ownerCh c.val none (ownerValue none) (setChanOwner c none s)
  else s

/-- An output released at an expiry (R58). -/
def releaseOutAtExpiry (p : Port) (s : State) (o : OutId) : State :=
  if s.owners.out[o] == some p then
    appendEntry .ownerOut o.val none (ownerValue none) (setOutOwner o none s)
  else s

/-- Every channel, then every output, of an expiring port released, each in ascending index (R58). -/
def releaseAll (p : Port) (s : State) : State :=
  (List.finRange 16).foldl (releaseOutAtExpiry p) ((List.finRange 48).foldl (releaseChanAtExpiry p) s)

/-- Every call of a port cleared (R57, R173). -/
def clearCallsAt (p : Port) (s : State) : State :=
  s.withCalls (s.calls.set p (Vector.replicate 4 { pending := false, acked := false }))

/-- A port's timer expires: ABSENT, the timer stopped at 0, the policy applied, its desk talk and its calls ended, and
DESK_ABSENT re-evaluated (R57, R58, R59, R177). -/
def expire (p : Port) (s : State) : State :=
  let s := setPresence p { present := false, running := false, elapsed := 0 } s
  let s := match s.settings.policy.get p with
    | .release => releaseAll p s
    | .report => s
  settle (clearCallsAt p (s.withTalkMask (s.talkMask.set p 0)))

/-- The timeout code that a port's count at the boundary now falling compares with: the one in force, but for a write at
this boundary, which is compared from the next boundary on (R61). -/
def timeoutCompared (s : State) (p : Port) : BitVec 2 := (s.presence.get p).held.getD (s.settings.timeout.get p)

/-- The count that brings a running timer to the timeout makes it expire (R55, R61). -/
def expiresNow (s : State) (p : Port) : Bool :=
  let r := s.presence.get p
  r.running && timeoutFrames (timeoutCompared s p) ≤ r.elapsed + 1

/-- A port's expiry falls at the boundary now falling and has not been taken (R60, R174). -/
def expiryFalls (s : State) (p : Port) : Bool := fresh (.presence p) s && expiresNow s p

/-- A new timeout of a port whose timer runs: where its count at the boundary now falling is still to come, that count
keeps the code the boundary began with, and the new one is compared from the next boundary on (R61; R136 leaves the pair
to it). A write given as a row of its own belongs to the boundary now falling too (DESIGN CHOICE, log entry 27). -/
def holdTimeout (p : Port) (old : BitVec 2) (s : State) : State :=
  let r := s.presence.get p
  if r.running && fresh (.presence p) s then setPresence p { r with held := some (r.held.getD old) } s else s

/-- A port has a call that its presence work clears at the boundary now falling (R174). -/
def callsEnding (s : State) (p : Port) : Bool := (List.finRange 4).any fun k : KeyId => (s.calls.get p)[k].ending

/-- A port's calls that were acknowledged ahead of its expiry at this boundary cleared (R174). -/
def endCalls (p : Port) (s : State) : State :=
  s.withCalls (s.calls.set p (Vector.ofFn fun k : KeyId =>
    if (s.calls.get p)[k].ending then { pending := false, acked := false } else (s.calls.get p)[k]))

/-- A presence timer's boundary work: a running timer counts one boundary (R55). A timer that a message of the same
boundary has restarted does not expire there (R60); where that message was an ACK_CALL, the entry it acknowledged ends
clear all the same, as R174's table has it (DESIGN CHOICE, log entry 28). -/
def countPresence (p : Port) (s : State) : State :=
  let s := endCalls p s
  let r := s.presence.get p
  if expiresNow s p then expire p s
  else if r.running then setPresence p { r with elapsed := r.elapsed + 1, held := none } s
  else s

/-! ## Claims and releases (R65 to R70) -/

/-- What a claim makes of an owner: granted where there is none, the claimer's own kept, another port's taken over
only while that port is ABSENT (R66). -/
inductive ClaimResult where
  | changed | kept | refused
deriving DecidableEq, Repr

/-- The claim table (R66). -/
def claimResult (s : State) (p : Port) : Option Port → ClaimResult
  | none => .changed
  | some q => if q = p then .kept else if (s.presence.get q).present then .refused else .changed

/-- One channel of a claim: on a change the owner is set, the claimer's record rebased and the entry made, in that
order (R66, R97). -/
def claimChan (p : Port) (s : State) (c : Chan) : State :=
  match claimResult s p s.owners.chan[c] with
  | .changed => appendEntry .ownerCh c.val (some p) (ownerValue (some p)) (rebase p c (setChanOwner c (some p) s))
  | .kept | .refused => s

/-- One output of a claim (R68). -/
def claimOut (p : Port) (s : State) (o : OutId) : State :=
  match claimResult s p s.owners.out[o] with
  | .changed => appendEntry .ownerOut o.val (some p) (ownerValue (some p)) (setOutOwner o (some p) s)
  | .kept | .refused => s

/-- One channel of a release (R67). -/
def releaseChan (p : Port) (s : State) (c : Chan) : State :=
  if s.owners.chan[c] == some p then
    appendEntry .ownerCh c.val (some p) (ownerValue none) (setChanOwner c none s)
  else s

/-- One output of a release (R69). -/
def releaseOut (p : Port) (s : State) (o : OutId) : State :=
  if s.owners.out[o] == some p then
    appendEntry .ownerOut o.val (some p) (ownerValue none) (setOutOwner o none s)
  else s

/-- The range of channels first to first + count − 1 is not one: first above 47, count 0 or above `most`, or the end
beyond 48 (R65, R99, R101, R132). -/
def badChanRange (most : Nat) (m : Msg) : Bool :=
  47 < m.arg.toNat || countField m == 0 || most < countField m || 48 < m.arg.toNat + countField m

/-- A channel is in the range a message names. -/
def inRange (m : Msg) (i : Nat) : Bool := m.arg.toNat ≤ i && i < m.arg.toNat + countField m

/-- CLAIM_CHANNELS (R65, R66): the reply's mask has the refused channels, and its code is OWNED if there is one. -/
def answerClaimChannels (p : Port) (m : Msg) (s : State) : Answer :=
  let isRefused (c : Chan) : Bool := inRange m c.val && claimResult s p s.owners.chan[c] == .refused
  judged [(m.body.length != 1, .badLength), (badChanRange 48 m, .badIndex)] s
    ⟨if (List.finRange 48).any isRefused then .owned else .done, chanMaskWords isRefused,
     settle ((chanRange m.arg.toNat (countField m)).foldl (claimChan p) s)⟩

/-- RELEASE_CHANNELS (R67): the reply's mask has the released channels. -/
def answerReleaseChannels (p : Port) (m : Msg) (s : State) : Answer :=
  judged [(m.body.length != 1, .badLength), (badChanRange 48 m, .badIndex)] s
    ⟨.done, chanMaskWords fun c => inRange m c.val && s.owners.chan[c] == some p,
     (chanRange m.arg.toNat (countField m)).foldl (releaseChan p) s⟩

/-- CLAIM_OUTPUTS (R68). -/
def answerClaimOutputs (p : Port) (m : Msg) (s : State) : Answer :=
  let mask := value16 m
  let isRefused (o : OutId) : Bool := mask.getLsbD o.val && claimResult s p s.owners.out[o] == .refused
  judged [(m.body.length != 1, .badLength)] s
    ⟨if (List.finRange 16).any isRefused then .owned else .done, [payload [fieldAt 15 0 (outMask isRefused).toNat]],
     (outsOf mask).foldl (claimOut p) s⟩

/-- RELEASE_OUTPUTS (R69). -/
def answerReleaseOutputs (p : Port) (m : Msg) (s : State) : Answer :=
  let mask := value16 m
  judged [(m.body.length != 1, .badLength)] s
    ⟨.done, [payload [fieldAt 15 0 (outMask fun o => mask.getLsbD o.val && s.owners.out[o] == some p).toNat]],
     (outsOf mask).foldl (releaseOut p) s⟩

/-- Owner s of the sequence of 64: channels 0 to 47, then outputs 0 to 15 (chapter 12, "READ_OWNERS words 1–5"). -/
def ownerSeq (s : State) : List (Option Port) := s.owners.chan.toList ++ s.owners.out.toList

/-- READ_OWNERS' words 1 to 5, fifteen owners to a word. -/
def ownerWord (s : State) (i : Nat) : Payload :=
  payload <| (((ownerSeq s).drop (15 * i)).take 15).mapIdx fun j o => fieldAt (2 * j + 1) (2 * j) (partyCode o)

/-- READ_OWNERS (R71). -/
def answerReadOwners (_p : Port) (m : Msg) (s : State) : Answer :=
  judged [(m.body.length != 0, .badLength)] s
    ⟨.done, (List.range 5).map (ownerWord s)
       ++ [payload (ports.map fun q => flagAt (portNo q) (s.presence.get q).present)], s⟩

/-! ## The commands -/

/-- KEEPALIVE: the restart of the presence timer and nothing else, whatever its argument and length, and whatever the
reply queue holds (R45, R62). -/
def execKeepalive (p : Port) (_m : Msg) (s : State) : Host.Outcome State Fault Refusal :=
  whileRunning s (fromDesk p (heard p))

/-- CLAIM_CHANNELS (R65, R66). -/
def execClaimChannels (p : Port) (m : Msg) (s : State) : Host.Outcome State Fault Refusal :=
  whileRunning s (fromDesk p (deliver p (kindCode .claimChannels) m answerClaimChannels))

/-- RELEASE_CHANNELS (R67). -/
def execReleaseChannels (p : Port) (m : Msg) (s : State) : Host.Outcome State Fault Refusal :=
  whileRunning s (fromDesk p (deliver p (kindCode .releaseChannels) m answerReleaseChannels))

/-- CLAIM_OUTPUTS (R68). -/
def execClaimOutputs (p : Port) (m : Msg) (s : State) : Host.Outcome State Fault Refusal :=
  whileRunning s (fromDesk p (deliver p (kindCode .claimOutputs) m answerClaimOutputs))

/-- RELEASE_OUTPUTS (R69). -/
def execReleaseOutputs (p : Port) (m : Msg) (s : State) : Host.Outcome State Fault Refusal :=
  whileRunning s (fromDesk p (deliver p (kindCode .releaseOutputs) m answerReleaseOutputs))

/-- READ_OWNERS (R71). -/
def execReadOwners (p : Port) (m : Msg) (s : State) : Host.Outcome State Fault Refusal :=
  whileRunning s (fromDesk p (deliver p (kindCode .readOwners) m answerReadOwners))

end Sys2Proof.Machine
end

