-- ==== Sys2Proof/Machine/FaultBlock.lean ====
section
/-! DEFINITION. The fault block's messages and its boundary work (chapter 11). -/
namespace Sys2Proof.Machine

/-- The flags of a copy left by a clear: a flag named is cleared unless it is a condition kind's and active for the
port (R182). -/
def clearedCopy (s : State) (p : Port) (mask : BitVec 12) : BitVec 12 :=
  s.faults.sticky.get p &&& ~~~ (mask &&& ~~~ (conditionKinds &&& s.faults.active.get p))

/-- CLEAR_FAULTS (R182). -/
def answerClearFaults (p : Port) (m : Msg) (s : State) : Answer :=
  let copy := clearedCopy s p (BitVec.ofNat 12 (bitsAt 11 0 (bodyWord m 0)))
  judged [(m.body.length != 1, .badLength)] s
    ⟨.done, [payload [fieldAt 11 0 copy.toNat]], s.withFaults { s.faults with sticky := s.faults.sticky.set p copy }⟩

/-- READ_FAULTS (R184). -/
def answerReadFaults (p : Port) (m : Msg) (s : State) : Answer :=
  let f := s.faults
  judged [(m.body.length != 0, .badLength)] s
    ⟨.done,
     [payload [fieldAt 11 0 (f.sticky.get p).toNat, fieldAt 23 12 (f.active.get p).toNat],
      payload [flagAt 0 f.driven.line0, fieldAt 13 1 f.stretch.line0, flagAt 14 f.driven.line1,
               fieldAt 27 15 f.stretch.line1]], s⟩

/-- A line's stretch timer lowered by 1 if above 0, and the line re-evaluated (R186). -/
def countStretch (l : Line) (s : State) : State :=
  let t := s.faults.stretch.get l
  if t = 0 then s else driveLines (s.withFaults { s.faults with stretch := s.faults.stretch.set l (t - 1) })

/-! ## The commands -/

/-- CLEAR_FAULTS (R182). -/
def execClearFaults (p : Port) (m : Msg) (s : State) : Host.Outcome State Fault Refusal :=
  whileRunning s (fromDesk p (deliver p (kindCode .clearFaults) m answerClearFaults))

/-- READ_FAULTS (R184). -/
def execReadFaults (p : Port) (m : Msg) (s : State) : Host.Outcome State Fault Refusal :=
  whileRunning s (fromDesk p (deliver p (kindCode .readFaults) m answerReadFaults))

end Sys2Proof.Machine
end

