-- ==== Sys2Proof/Machine/Tracking.lean ====
section
/-! DEFINITION. Gain tracking (chapter 6): the anchor rule, trims, tracking flags. -/
namespace Sys2Proof.Machine

/-- The anchor rule for one port's record at a change of E: the anchor follows E for the owner and where tracking is
OFF, and is held otherwise; D is recomputed (R95). -/
def anchorOne (owner : Option Port) (E : Int) (p : Port) (t : Track) : Track :=
  recompute E (if owner == some p || !t.tracking then { t with anchor := E } else t)

/-- The anchor rule applied to a channel's three records after its E has changed (R95). -/
def anchorRule (c : Chan) (s : State) : State :=
  ports.foldl (fun s p => setTrack p c (anchorOne s.owners.chan[c] s.channels[c].eff p (s.tracks.get p)[c]) s) s

/-- A tracking word (chapter 12). -/
def trackWord (t : Track) : Payload :=
  payload [signedAt 7 0 t.trim, signedAt 16 8 t.anchor, signedAt 24 17 t.gain, flagAt 25 t.tracking, flagAt 26 t.limited]

/-- The channel a message's argument names; the index test refuses an argument above 47 before this is used. -/
def chanArg (m : Msg) : Chan := ⟨m.arg.toNat % 48, Nat.mod_lt _ (by decide)⟩

/-- SET_TRIM (R98): the clamped trim becomes T, and D and the limited flag are recomputed. -/
def answerSetTrim (p : Port) (m : Msg) (s : State) : Answer :=
  let c := chanArg m
  let asked := signedOf 16 (bodyWord m 0)
  let trim := clampTo (-60) 36 asked
  let t := recompute s.channels[c].eff { (s.tracks.get p)[c] with trim := trim }
  judged [(m.body.length != 1, .badLength), (47 < m.arg.toNat, .badIndex)] s
    ⟨if trim = asked then .done else .clamped, [trackWord t], settle (setTrack p c t s)⟩

/-- One channel of SET_TRACKING (R100): ON to OFF rebases first; the flag becomes the state asked. -/
def setTrackingOne (p : Port) (on : Bool) (s : State) (c : Chan) : State :=
  let t := (s.tracks.get p)[c]
  let t' := if t.tracking && !on then rebased s.channels[c].eff t else t
  setTrack p c { t' with tracking := on } s

/-- SET_TRACKING (R99, R100): the reply's mask has the channels whose flag changed. -/
def answerSetTracking (p : Port) (m : Msg) (s : State) : Answer :=
  let on := sideField m == 1
  judged [(m.body.length != 1, .badLength), (badChanRange 48 m, .badIndex), (1 < sideField m, .badValue)] s
    ⟨.done, chanMaskWords fun c => inRange m c.val && (s.tracks.get p)[c].tracking != on,
     settle ((chanRange m.arg.toNat (countField m)).foldl (setTrackingOne p on) s)⟩

/-- READ_TRACKING (R101): the tracking words of one port's records. -/
def answerReadTracking (_p : Port) (m : Msg) (s : State) : Answer :=
  let words := match portOf (sideField m) with
    | some q => (chanRange m.arg.toNat (countField m)).map fun c => trackWord (s.tracks.get q)[c]
    | none => []
  judged [(m.body.length != 1, .badLength), (badChanRange 15 m, .badIndex), (2 < sideField m, .badValue)] s
    ⟨.done, words, s⟩

/-! ## The commands -/

/-- SET_TRIM (R98). -/
def execSetTrim (p : Port) (m : Msg) (s : State) : Host.Outcome State Fault Refusal :=
  whileRunning s (fromDesk p (deliver p (kindCode .setTrim) m answerSetTrim))

/-- SET_TRACKING (R99, R100). -/
def execSetTracking (p : Port) (m : Msg) (s : State) : Host.Outcome State Fault Refusal :=
  whileRunning s (fromDesk p (deliver p (kindCode .setTracking) m answerSetTracking))

/-- READ_TRACKING (R101). -/
def execReadTracking (p : Port) (m : Msg) (s : State) : Host.Outcome State Fault Refusal :=
  whileRunning s (fromDesk p (deliver p (kindCode .readTracking) m answerReadTracking))

end Sys2Proof.Machine
end

