-- ==== Sys2Proof/Machine/HeadAmp.lean ====
section
/-! DEFINITION. Head amplifiers (chapter 5): pending steps, phantom power, meters. -/
namespace Sys2Proof.Machine

/-! ## Steps (R74 to R79) -/

/-- The value of a GAIN entry: the new G and pad. -/
def gainValue (gain : Int) (pad : Bool) : BitVec 16 := BitVec.ofNat 16 (fieldAt 7 0 gain.toNat + flagAt 8 pad)

/-- A pending step applied (R79): one whose target is the present setting vanishes; otherwise G, the pad and E change,
the setting is sent, the anchor rule runs, and a GAIN entry is made by the owner or STAGE. -/
def applyStep (c : Chan) (st : Step) (s : State) : State :=
  let ch := s.channels[c]
  if st.gain = ch.gain ∧ st.pad = ch.pad then setChannel c { ch with pending := none } s
  else
    let ch' := sendSetting
      { ch with gain := st.gain, pad := st.pad, eff := effOf st.gain st.pad, pending := none }
    let s := anchorRule c (setChannel c ch' s)
    settle (appendEntry .gain c.val s.owners.chan[c] (gainValue st.gain st.pad) s)

/-- Two consecutive samples have opposite signs, one negative and the other above zero. -/
def opposite (a b : Sample) : Bool := (a.toInt < 0 && 0 < b.toInt) || (0 < a.toInt && b.toInt < 0)

/-- A captured frame has a crossing: a sample is zero, or two consecutive samples, counting the last captured sample
before the frame, have opposite signs (R77). -/
def hasCrossing (last : Sample) (f : SampleFrame) : Bool :=
  (f.toList.any fun x => x == 0) || ((last :: f.toList).zip f.toList).any fun ab => opposite ab.1 ab.2

/-- A pending step at a boundary whose captured frame is `f` (R78): applied at a crossing, or forced at 60 frames
waited; otherwise it waits. -/
def advanceStep (c : Chan) (f : SampleFrame) (s : State) : State :=
  let ch := s.channels[c]
  match ch.pending with
  | none => s
  | some st =>
    if hasCrossing ch.last f || 60 ≤ st.waited + 1 then applyStep c st s
    else setChannel c { ch with pending := some { st with waited := st.waited + 1 } } s

/-- The magnitude of a sample is its absolute value (R88). -/
def magnitude (x : Sample) : Nat := x.toInt.natAbs

/-- A meter record updated from a captured frame (R88). -/
def meterFrame (f : SampleFrame) (m : Meter) : Meter :=
  { m with
    peak := f.toList.foldl (fun k x => max k (magnitude x)) m.peak
    clip := m.clip || f.toList.any fun x => x.toInt == -8388608 || x.toInt == 8388607 }

/-- A channel's captured frame handled at a boundary: the meters, the pending step, the last captured sample (R73). -/
def captureFrame (c : Chan) (s : State) : State :=
  let f := s.latch.captured[c]
  let s := ports.foldl (fun s p => setMeter p c (meterFrame f (s.meters.get p)[c]) s) s
  let s := advanceStep c f s
  setChannel c { s.channels[c] with last := f[7] } s

/-- A step word (chapter 12). -/
def stepWord (st : Step) : Payload :=
  payload [fieldAt 7 0 st.gain.toNat, flagAt 8 st.pad, fieldAt 14 9 st.waited]

/-- A port other than the channel's owner, or any port where it has none. -/
def notChanOwner (p : Port) (m : Msg) (s : State) : Bool := s.owners.chan[chanArg m] != some p

/-- The pending step a request retargets, or the one it creates at the present setting (R76). -/
def standingStep (ch : Channel) : Step := ch.pending.getD { gain := ch.gain, pad := ch.pad, waited := 0 }

/-- SET_GAIN (R74, R76): clamped to 10 to 130, then rounded down to even. -/
def answerSetGain (p : Port) (m : Msg) (s : State) : Answer :=
  let c := chanArg m
  let asked := signedOf 16 (bodyWord m 0)
  let g := clampTo 10 130 asked
  let st := { standingStep s.channels[c] with gain := g - g % 2 }
  judged [(m.body.length != 1, .badLength), (47 < m.arg.toNat, .badIndex), (notChanOwner p m s, .notOwner)] s
    ⟨if g = asked then .done else .clamped, [stepWord st],
     setChannel c { s.channels[c] with pending := some st } s⟩

/-- SET_PAD (R75, R76). -/
def answerSetPad (p : Port) (m : Msg) (s : State) : Answer :=
  let c := chanArg m
  let st := { standingStep s.channels[c] with pad := value16 m == 1 }
  judged [(m.body.length != 1, .badLength), (47 < m.arg.toNat, .badIndex), (1 < (value16 m).toNat, .badValue),
      (notChanOwner p m s, .notOwner)] s
    ⟨.done, [stepWord st], setChannel c { s.channels[c] with pending := some st } s⟩

/-! ## Phantom power (R81 to R87) -/

/-- The value of a PHANTOM entry: the request and the state as the event leaves them. -/
def phantomValue (ch : Channel) : BitVec 16 := BitVec.ofNat 16 (flagAt 0 ch.request + fieldAt 3 1 (phantomNo ch.phantom))

/-- A state whose entering from another state makes a PHANTOM entry: ON, OFF or SHED (R87). -/
def settledState : PhState → Bool
  | .on | .off | .shed => true
  | .rampUp | .rampDown => false

/-- A channel's phantom record replaced, its setting sent, and a PHANTOM entry made if its request changed, if its
state came into ON, OFF or SHED from another, or if a bank retry brought it out of SHED (R72, R87). -/
def movePhantom (author : Option Port) (c : Chan) (ch : Channel) (s : State) : State :=
  let old := s.channels[c]
  let s := setChannel c (sendSetting ch) s
  if ch.request != old.request || (ch.phantom != old.phantom && settledState ch.phantom)
      || (author == none && old.phantom == .shed && ch.phantom == .rampUp) then
    appendEntry .phantom c.val author (phantomValue ch) s
  else s

/-- A bank in HOLDOFF or LOCKED_OUT holds its feeds off. -/
def bankHeldOff : BankState → Bool
  | .holdoff | .lockedOut => true
  | .normal | .retry => false

/-- The table of R81: the channel's record after an accepted request, and whether the reply is DEFERRED. -/
def requestPhantom (bank : BankState) (on : Bool) (ch : Channel) : Channel × Bool :=
  match on, ch.phantom with
  | true, .off =>
    if bankHeldOff bank then ({ ch with request := true, phantom := .shed }, true)
    else ({ ch with request := true, phantom := .rampUp, mute := 1800 }, false)
  | true, .rampDown => ({ ch with request := true, phantom := .rampUp, mute := 1800 }, false)
  | true, .rampUp | true, .on => ({ ch with request := true }, false)
  | true, .shed => ({ ch with request := true }, true)
  | false, .rampUp | false, .on => ({ ch with request := false, phantom := .rampDown, mute := 1800 }, false)
  | false, .shed => ({ ch with request := false, phantom := .off }, false)
  | false, .off | false, .rampDown => ({ ch with request := false }, false)

/-- A phantom word (chapter 12). -/
def phantomWord (ch : Channel) : Payload :=
  payload [flagAt 0 ch.request, fieldAt 3 1 (phantomNo ch.phantom), fieldAt 14 4 ch.mute]

/-- SET_PHANTOM (R81, R87). -/
def answerSetPhantom (p : Port) (m : Msg) (s : State) : Answer :=
  let c := chanArg m
  let r := requestPhantom s.phantom.banks[bankOf c].state (value16 m == 1) s.channels[c]
  judged [(m.body.length != 1, .badLength), (47 < m.arg.toNat, .badIndex), (1 < (value16 m).toNat, .badValue),
      (notChanOwner p m s, .notOwner)] s
    ⟨if r.2 then .deferred else .done, [phantomWord r.1], movePhantom (some p) c r.1 s⟩

/-- A mute counter's boundary work (R82): lowered by 1 if above 0; at 0 a RAMP_UP ends in ON and a RAMP_DOWN in OFF. -/
def countMute (c : Chan) (s : State) : State :=
  let ch := s.channels[c]
  if ch.mute = 0 then s
  else
    let ch' := { ch with mute := ch.mute - 1 }
    if ch'.mute = 0 then
      match ch.phantom with
      | .rampUp => movePhantom none c { ch' with phantom := .on } s
      | .rampDown => movePhantom none c { ch' with phantom := .off } s
      | .off | .on | .shed => setChannel c ch' s
    else setChannel c ch' s

/-- A bank shed at one channel: SHED if its request is ON, else OFF; its mute counter 1800 (R84). -/
def shedChan (s : State) (c : Chan) : State :=
  let ch := s.channels[c]
  movePhantom none c { ch with phantom := if ch.request then .shed else .off, mute := 1800 } s

/-- A bank retry at one channel: SHED goes to RAMP_UP with its mute counter 1800; others are left (R85). -/
def retryChan (s : State) (c : Chan) : State :=
  let ch := s.channels[c]
  if ch.phantom == .shed then movePhantom none c { ch with phantom := .rampUp, mute := 1800 } s else s

/-- A captured frame as handed on: 8 zero samples while the channel's mute counter is above 0 (R73, R83). -/
def handedOn (s : State) (c : Chan) : SampleFrame :=
  if 0 < s.channels[c].mute then zeroFrame else s.latch.captured[c]

/-! ## Meters (R90) -/

/-- The bank a message's argument names; the index test refuses an argument above 5 before this is used. -/
def bankArg (m : Msg) : BankId := ⟨m.arg.toNat % 6, Nat.mod_lt _ (by decide)⟩

/-- A meter word (chapter 12). -/
def meterWord (s : State) (p : Port) (c : Chan) : Payload :=
  let m := (s.meters.get p)[c]
  payload [fieldAt 15 0 (m.peak / 256), flagAt 16 m.clip, flagAt 17 m.sendClip, flagAt 18 (s.tracks.get p)[c].limited,
           flagAt 19 (decide (0 < s.channels[c].mute))]

/-- READ_METERS (R90): the bank's eight words, and the sending port's records of those channels cleared. -/
def answerReadMeters (p : Port) (m : Msg) (s : State) : Answer :=
  let chans := bankChans (bankArg m)
  judged [(m.body.length != 0, .badLength), (5 < m.arg.toNat, .badIndex)] s
    ⟨.done, chans.map (meterWord s p),
     chans.foldl (fun s c => setMeter p c { peak := 0, clip := false, sendClip := false } s) s⟩

/-! ## The commands -/

/-- SET_GAIN (R74). -/
def execSetGain (p : Port) (m : Msg) (s : State) : Host.Outcome State Fault Refusal :=
  whileRunning s (fromDesk p (deliver p (kindCode .setGain) m answerSetGain))

/-- SET_PAD (R75). -/
def execSetPad (p : Port) (m : Msg) (s : State) : Host.Outcome State Fault Refusal :=
  whileRunning s (fromDesk p (deliver p (kindCode .setPad) m answerSetPad))

/-- SET_PHANTOM (R81). -/
def execSetPhantom (p : Port) (m : Msg) (s : State) : Host.Outcome State Fault Refusal :=
  whileRunning s (fromDesk p (deliver p (kindCode .setPhantom) m answerSetPhantom))

/-- READ_METERS (R90). -/
def execReadMeters (p : Port) (m : Msg) (s : State) : Host.Outcome State Fault Refusal :=
  whileRunning s (fromDesk p (deliver p (kindCode .readMeters) m answerReadMeters))

end Sys2Proof.Machine
end

