-- ==== Sys2Proof/Machine/Journal.lean ====
section
/-! DEFINITION. Reading the change journal and the channels (chapter 8). -/
namespace Sys2Proof.Machine

/-- The two BODY words of an entry (chapter 12). -/
def entryWords (e : Entry) : List Payload :=
  [payload [fieldAt 2 0 (entryKindNo e.kind), fieldAt 10 3 e.subject.toNat, fieldAt 12 11 (partyCode e.author),
            fieldAt 28 13 (e.gen.toNat % 65536)],
   payload [fieldAt 15 0 e.value.toNat]]

/-- The entries with generations g + 1 to g + k, where d entries follow g: the newest d of the journal, and of those the
oldest 7 at most (R130). -/
def entriesAfter (d : Nat) (entries : List Entry) : List Entry := (entries.drop (entries.length - d)).take 7

/-- READ_CHANGES (R129, R130). -/
def answerReadChanges (_p : Port) (m : Msg) (s : State) : Answer :=
  let g := namedGeneration m
  let cur := s.journal.gen
  let ahead := (g - cur).toNat
  let d := (cur - g).toNat
  let held := entriesAfter d s.journal.entries
  judged [(m.body.length != 2, .badLength), (1 ≤ ahead && ahead ≤ 2 ^ 31, .badValue)] s <|
    if d ≤ s.journal.entries.length then
      ⟨.done, held.flatMap entryWords
         ++ [payload [fieldAt 2 0 held.length, flagAt 3 (decide (7 < d)), fieldAt 19 4 (genLow s)]], s⟩
    else
      ⟨.tooOld, [payload [fieldAt 15 0 (bitsAt 15 0 cur.toNat)], payload [fieldAt 15 0 (bitsAt 31 16 cur.toNat)]], s⟩

/-- A channel word (chapter 12). -/
def channelWord (s : State) (c : Chan) : Payload :=
  let ch := s.channels[c]
  payload [fieldAt 7 0 ch.gain.toNat, flagAt 8 ch.pad, flagAt 9 ch.request, fieldAt 12 10 (phantomNo ch.phantom),
           fieldAt 14 13 (partyCode s.owners.chan[c])]

/-- READ_CHANNELS (R132). -/
def answerReadChannels (_p : Port) (m : Msg) (s : State) : Answer :=
  judged [(m.body.length != 1, .badLength), (badChanRange 14 m, .badIndex)] s
    ⟨.done, (chanRange m.arg.toNat (countField m)).map (channelWord s) ++ [payload [fieldAt 15 0 (genLow s)]], s⟩

/-! ## The commands -/

/-- READ_CHANGES (R129, R130). -/
def execReadChanges (p : Port) (m : Msg) (s : State) : Host.Outcome State Fault Refusal :=
  whileRunning s (fromDesk p (deliver p (kindCode .readChanges) m answerReadChanges))

/-- READ_CHANNELS (R132). -/
def execReadChannels (p : Port) (m : Msg) (s : State) : Host.Outcome State Fault Refusal :=
  whileRunning s (fromDesk p (deliver p (kindCode .readChannels) m answerReadChannels))

end Sys2Proof.Machine
end

