-- ==== Sys2Proof/Machine/Outputs.lean ====
section
/-! DEFINITION. Monitor outputs and failover (chapter 9): SET_OUTPUT, READ_OUTPUTS, holdoffs, crossfades, ducks, the
output arithmetic. -/
namespace Sys2Proof.Machine

/-! ## Setting an output (R148 to R151; chapter 12, "SET_OUTPUT setting") -/

/-- A source of a setting: its present flag, its port and its return channel, from a bit up. -/
def sourceAt (lo v : Nat) : Option Source :=
  if bitAt lo v then
    match portOf (bitsAt (lo + 2) (lo + 1) v) with
    | some p => some ⟨p, ⟨bitsAt (lo + 6) (lo + 3) v, by
        have : lo + 6 + 1 - (lo + 3) = 4 := by omega
        simp only [bitsAt, this]; exact Nat.mod_lt _ (by decide)⟩⟩
    | none => none
  else none

/-- A present source that names port 3 (R148). -/
def badSource (lo v : Nat) : Bool := bitAt lo v && bitsAt (lo + 2) (lo + 1) v == 3

/-- The fail action of a setting; 3 is refused before this is used. -/
def actionOf (v : Nat) : FailAction :=
  match bitsAt 15 14 v with
  | 0 => .mute | 1 => .backup | _ => .hold

/-- A source placed in a setting, from a bit up. For a source that is NONE the present flag is clear, the port bits are
the party code for NONE (R189), and the channel bits are a free value of those the request carried (log entry 3). -/
def sourceField (lo : Nat) (asked : BitVec 16) : Option Source → Nat
  | none =>
    fieldAt (lo + 2) (lo + 1) (partyCode none)
      + fieldAt (lo + 6) (lo + 3) (Config.absentSourceChannel (BitVec.ofNat 4 (bitsAt (lo + 6) (lo + 3) asked.toNat))).toNat
  | some src => flagAt lo true + fieldAt (lo + 2) (lo + 1) (portNo src.port) + fieldAt (lo + 6) (lo + 3) src.ch.val

/-- An output's setting in its 16-bit form. -/
def outputSetting (o : Output) : BitVec 16 :=
  BitVec.ofNat 16
    (sourceField 0 o.asked o.primary + sourceField 7 o.asked o.backup + fieldAt 15 14 (actionNo o.action))

/-- An output placed afresh under its setting (R149). -/
def placeOutput (s : State) (o : Output) : Output :=
  match o.primary with
  | none => { o with sel := .silent, failed := false, holdoff := 0 }
  | some _ =>
    let o' := { o with sel := .primary, failed := false, holdoff := 0 }
    if available s o.primary then o' else losePrimary (available s o.backup) o'

/-- The output a message's argument names; the index test refuses an argument above 15 before this is used. -/
def outArg (m : Msg) : OutId := ⟨m.arg.toNat % 16, Nat.mod_lt _ (by decide)⟩

/-- The selection, flag and availability fields, from a bit up. -/
def statusFields (lo : Nat) (s : State) (o : Output) : List Nat :=
  [fieldAt (lo + 1) lo (selectionNo o.sel), flagAt (lo + 2) o.failed, flagAt (lo + 3) (available s o.primary),
   flagAt (lo + 4) (available s o.backup)]

/-- SET_OUTPUT (R148 to R151). -/
def answerSetOutput (p : Port) (m : Msg) (s : State) : Answer :=
  let v := (value16 m).toNat
  let i := outArg m
  let asked := { s.outputs[i] with
    primary := sourceAt 0 v, backup := sourceAt 7 v, action := actionOf v, asked := value16 m }
  let o := placeOutput s asked
  let s' := appendEntry .output i.val (some p) (outputSetting o) (settle (setOutputRec i o s))
  judged [(m.body.length != 1, .badLength), (15 < m.arg.toNat, .badIndex),
      (badSource 0 v || badSource 7 v || bitsAt 15 14 v == 3, .badValue), (s.owners.out[i] != some p, .notOwner)] s
    ⟨.done, [payload (statusFields 0 s o ++ [fieldAt 20 5 (genLow s')])], s'⟩

/-- An output is talked to while the talk mask of at least one port includes it (R154). -/
def talkedTo (s : State) (i : OutId) : Bool := ports.any fun p => (s.talkMask.get p).getLsbD i.val

/-- The three words of an output in a READ_OUTPUTS reply (R160). -/
def outputWords (s : State) (i : OutId) : List Payload :=
  let o := s.outputs[i]
  [payload (fieldAt 15 0 (outputSetting o).toNat :: statusFields 16 s o),
   payload [fieldAt 8 0 o.wp, fieldAt 17 9 o.wb, fieldAt 26 18 o.duck],
   payload [fieldAt 13 0 o.holdoff, flagAt 14 (talkedTo s i)]]

/-- READ_OUTPUTS (R160). -/
def answerReadOutputs (_p : Port) (m : Msg) (s : State) : Answer :=
  let n := countField m
  judged [(m.body.length != 1, .badLength),
      (15 < m.arg.toNat || n == 0 || 5 < n || 16 < m.arg.toNat + n, .badIndex)] s
    ⟨.done, (outRange m.arg.toNat n).flatMap (outputWords s), s⟩

/-! ## The return holdoff (R146) -/

/-- An output's boundary work: while failed over with its primary available, the timer is lowered, and at 0 the output
returns to PRIMARY. -/
def countHoldoff (i : OutId) (s : State) : State :=
  let o := s.outputs[i]
  if o.failed && available s o.primary then
    if o.holdoff ≤ 1 then settle (setOutputRec i { o with sel := .primary, failed := false, holdoff := 0 } s)
    else setOutputRec i { o with holdoff := o.holdoff - 1 } s
  else s

/-! ## Output frames (R140, R153 to R158) -/

/-- A weight that rises by 1 unless at 480, or falls by 1 unless at 0. -/
def stepWeight (rise : Bool) (w : Nat) : Nat := if rise then (if w < 480 then w + 1 else w) else w - 1

/-- The weights of one sample period (R153): the selected source's weight rises and the other falls. -/
def stepOutput (talked : Bool) (o : Output) : Output :=
  { o with wp := stepWeight (o.sel == .primary) o.wp, wb := stepWeight (o.sel == .backup) o.wb,
           duck := stepWeight talked o.duck }

/-- The duck gain of a depth: the gain function applied to 32768 with D = −depth (R155). -/
def duckGain (depth : Int) : Int := gainExact 32768 (-depth)

/-- The duck factor of a duck weight and a duck gain (R156). -/
def duckFactor (u : Nat) (g : Int) : Int := 32768 - u * (32768 - g) / 480

/-- Sample i of a source as its port hands it on; NONE gives 0 (R157). -/
def sourceSample (s : State) (src : Option Source) (i : Fin 8) : Int :=
  match src with
  | none => 0
  | some x => ((s.latch.handoff.get x.port).ret[x.ch][i]).toInt

/-- The programme sample: p × k / (480 × 32768) rounded (R157). -/
def programmeSample (s : State) (o : Output) (i : Fin 8) : Int :=
  roundDiv ((sourceSample s o.primary i * o.wp + sourceSample s o.backup i * o.wb)
    * duckFactor o.duck (duckGain s.settings.duckDepth)) 15728640

/-- The talk sum of an output: the desk talk frames of the ports whose mask includes it (R158, R176). -/
def talkSum (s : State) (o : OutId) (i : Fin 8) : Int :=
  (ports.map fun p =>
    if (s.talkMask.get p).getLsbD o.val && (s.merges.get p).talkValid then ((s.latch.handoff.get p).talk[i]).toInt
    else 0).sum

/-- The output sample: programme plus talk, saturated (R158). -/
def outputSample (s : State) (i : OutId) (o : Output) (j : Fin 8) : Sample :=
  (saturate (programmeSample s o j + talkSum s i j)).1

/-- An output's record after k sample periods, each of which steps the weights (R153, R154). -/
def stepped (s : State) (i : OutId) : Nat → Output
  | 0 => s.outputs[i]
  | k + 1 => stepOutput (talkedTo s i) (stepped s i k)

/-- The 8 samples an output's module plays in the period that begins at the boundary; sample j is computed after the
weights have taken their step of that sample period (R140, R157). -/
def outputFrame (s : State) (i : OutId) : SampleFrame :=
  Vector.ofFn fun j : Fin 8 => outputSample s i (stepped s i (j.val + 1)) j

/-- Every output's frame computed and sent, from the state that the boundary's events leave (R140). -/
def playOutputs (s : State) : State :=
  s.withOutputs (Vector.ofFn fun i => { stepped s i 8 with frame := outputFrame s i })

/-! ## The commands -/

/-- SET_OUTPUT (R148, R149). -/
def execSetOutput (p : Port) (m : Msg) (s : State) : Host.Outcome State Fault Refusal :=
  whileRunning s (fromDesk p (deliver p (kindCode .setOutput) m answerSetOutput))

/-- READ_OUTPUTS (R160). -/
def execReadOutputs (p : Port) (m : Msg) (s : State) : Host.Outcome State Fault Refusal :=
  whileRunning s (fromDesk p (deliver p (kindCode .readOutputs) m answerReadOutputs))

end Sys2Proof.Machine
end

