-- ==== Sys2Proof/Machine/PhantomMonitor.lean ====
section
/-! DEFINITION. The phantom supply monitor (chapter 7): readings, trips, holdoffs, retries, PHANTOM_RESET. -/
namespace Sys2Proof.Machine

/-- The trip level of a PHANTOM_TRIP code (R112). -/
def tripLevel (code : BitVec 2) : Nat :=
  match code.toNat with
  | 0 => 736 | 1 => 704 | 2 => 672 | _ => 640

/-- The hysteresis: a holdoff ends in RETRY only at the trip level plus 16 (R112). -/
def hysteresis : Nat := 16

/-- The value of a BANK entry (R121). -/
def bankValue (k : Bank) : BitVec 16 :=
  BitVec.ofNat 16 (fieldAt 1 0 (bankNo k.state) + fieldAt 3 2 k.trips + fieldAt 13 4 k.last)

/-- A bank word (chapter 12). -/
def bankWord (k : Bank) : Payload :=
  payload [fieldAt 1 0 (bankNo k.state), fieldAt 3 2 k.trips, fieldAt 13 4 k.last, fieldAt 29 14 k.timer]

/-- A bank's state changed, with its BANK entry (R118, R121). -/
def moveBank (author : Option Port) (b : BankId) (k : Bank) (s : State) : State :=
  appendEntry .bank b.val author (bankValue k) (setBank b k s)

/-- A shed: the BANK entry, then the bank's channels in ascending index (R84, R118). -/
def shedBank (b : BankId) (k : Bank) (s : State) : State :=
  settle ((bankChans b).foldl shedChan (moveBank none b k s))

/-- A retry: the BANK entry, then the bank's channels in ascending index (R85, R118). -/
def retryBank (author : Option Port) (b : BankId) (k : Bank) (s : State) : State :=
  settle ((bankChans b).foldl retryChan (moveBank author b k s))

/-- A bank's timer that this boundary's work has just set is not advanced in that work (R113). -/
def holdTimer (b : BankId) (s : State) : State := markTaken (.bank b) s

/-- A reading becomes the bank's last reading and is judged: below the trip level it trips a NORMAL or RETRY bank
(R111, R112, R114). -/
def takeReading (b : BankId) (code : Nat) (s : State) : State :=
  let k := { s.phantom.banks[b] with last := code }
  if code < tripLevel s.settings.trip then
    match k.state with
    | .normal => holdTimer b (shedBank b { k with state := .holdoff, trips := 1, timer := 12000 } s)
    | .retry =>
      if 3 ≤ k.trips + 1 then
        holdTimer b (shedBank b { k with state := .lockedOut, trips := k.trips + 1, timer := 0 } s)
      else holdTimer b (shedBank b { k with state := .holdoff, trips := k.trips + 1, timer := 12000 } s)
    | .holdoff | .lockedOut => setBank b k s
  else setBank b k s

/-- A holdoff has ended: RETRY where the rail has recovered, else the holdoff restarts (R116). -/
def endHoldoff (b : BankId) (s : State) : State :=
  let k := s.phantom.banks[b]
  if tripLevel s.settings.trip + hysteresis ≤ k.last then retryBank none b { k with state := .retry, timer := 0 } s
  else setBank b { k with timer := 12000 } s

/-- A retry watch has ended: NORMAL, trip count 0, timer 0 (R117). -/
def endWatch (b : BankId) (s : State) : State :=
  settle (moveBank none b { s.phantom.banks[b] with state := .normal, trips := 0, timer := 0 } s)

/-- A bank's timer advanced by one boundary (R113, R116, R117). -/
def advanceBank (b : BankId) (s : State) : State :=
  let k := s.phantom.banks[b]
  match k.state with
  | .holdoff => if k.timer ≤ 1 then endHoldoff b s else setBank b { k with timer := k.timer - 1 } s
  | .retry => if 60000 ≤ k.timer + 1 then endWatch b s else setBank b { k with timer := k.timer + 1 } s
  | .normal | .lockedOut => s

/-- The conversion in progress completes: its code is the reading of the bank it was on (R111). -/
def readingWork (s : State) : State := takeReading s.phantom.scan s.latch.rail.toNat s

/-- The port owns no channel of a bank (R119). -/
def ownsNoneOf (p : Port) (b : BankId) (s : State) : Bool :=
  (bankChans b).all fun c => s.owners.chan[c] != some p

/-- An accepted PHANTOM_RESET: a bank in HOLDOFF or LOCKED_OUT goes to RETRY with trip count 0 and is retried (R119). -/
def resetBank (p : Port) (b : BankId) (s : State) : State :=
  let k := s.phantom.banks[b]
  match k.state with
  | .holdoff | .lockedOut => retryBank (some p) b { k with state := .retry, trips := 0, timer := 0 } s
  | .normal | .retry => s

/-- PHANTOM_RESET (R119). -/
def answerPhantomReset (p : Port) (m : Msg) (s : State) : Answer :=
  let b := bankArg m
  let s' := resetBank p b s
  judged [(m.body.length != 0, .badLength), (5 < m.arg.toNat, .badIndex), (ownsNoneOf p b s, .notOwner)] s
    ⟨.done, [bankWord s'.phantom.banks[b]], s'⟩

/-- READ_PHANTOM (R123). -/
def answerReadPhantom (_p : Port) (m : Msg) (s : State) : Answer :=
  judged [(m.body.length != 0, .badLength)] s ⟨.done, s.phantom.banks.toList.map bankWord, s⟩

/-! ## The commands -/

/-- PHANTOM_RESET (R119). -/
def execPhantomReset (p : Port) (m : Msg) (s : State) : Host.Outcome State Fault Refusal :=
  whileRunning s (fromDesk p (deliver p (kindCode .phantomReset) m answerPhantomReset))

/-- READ_PHANTOM (R123). -/
def execReadPhantom (p : Port) (m : Msg) (s : State) : Host.Outcome State Fault Refusal :=
  whileRunning s (fromDesk p (deliver p (kindCode .readPhantom) m answerReadPhantom))

end Sys2Proof.Machine
end

