-- ==== Sys2Proof/Machine/Link.lean ====
section
/-! DEFINITION. Stage Link paths and merge windows (chapter 1): receivers, arrivals, scores, the placing of copies. -/
namespace Sys2Proof.Machine

/-! ## The merge window (R11, R13 to R16, R21) -/

/-- The distance from P to a frame number, modulo 4096 (R13). -/
def distance (m : Merge) (n : BitVec 12) : Nat := (n - m.playNo).toNat

/-- The window re-centred on a copy: P two frames behind it, the copy in its slot, RUNNING, empty run 0 (R11, R21). -/
def recentre (c : Copy) (m : Merge) : Merge :=
  { m with slots := vset (Vector.replicate 4 none) 2 (some c), playNo := c.frameNo - 2, hunting := false, emptyRun := 0 }

/-- The window moved forward by k frames, the slots passed over discarded. -/
def advance (k : Nat) (m : Merge) : Merge :=
  { m with slots := Vector.ofFn fun i : Fin 4 => if h : i.val + k < 4 then m.slots[i.val + k] else none,
           playNo := m.playNo + BitVec.ofNat 12 k }

/-- A copy at distance 0 to 3 stored, replacing, or discarded as a duplicate (R14). -/
def placeInSlot (d : Fin 4) (c : Copy) (m : Merge) : Merge :=
  match m.slots[d] with
  | none => { m with slots := vset m.slots d (some c) }
  | some held =>
    if !held.good && c.good then { m with slots := vset m.slots d (some c) } else { m with dups := m.dups + 1 }

/-- An early copy at distance d (4 to 2047): the window slips by d − 3 and the copy takes the slot at distance 3 (R15). -/
def slipTo (d : Nat) (c : Copy) (m : Merge) : Merge :=
  let m' := advance (d - 3) m
  { m' with slots := vset m'.slots 3 (some c), slips := m.slips + BitVec.ofNat 16 (d - 3) }

/-- A copy from a carrying path placed in its port's window (R14, R15, R16, R21). -/
def placeCopy (p : Port) (c : Copy) (s : State) : State :=
  let m := s.merges.get p
  let d := distance m c.frameNo
  if m.hunting then setMerge p (recentre c m) s
  else if h : d < 4 then setMerge p (placeInSlot ⟨d, h⟩ c m) s
  else if d < 2048 then raiseAll .slip (setMerge p (slipTo d c m) s)
  else setMerge p { m with lates := m.lates + 1 } s

/-! ## The receiver (R1, R2, R3) -/

/-- The receiver's path is not DISABLED, and its transceiver has signal. -/
def receiving (s : State) (p : Port) (x : PathName) : Bool :=
  (pathRec s p x).state != .disabled && hasSignal s p x

/-- An arrival recorded in the interval record (R3). -/
def recordArrival (c : Copy) (r : PathRec) : PathRec :=
  { r with arrived := true, good := r.good || c.good, suspect := r.suspect || !c.good }

/-- An arrival at a path in ACQUIRE: recorded, and a good copy becomes the acquisition frame (R3). -/
def acquireArrival (c : Copy) (r : PathRec) : PathRec :=
  let r' := recordArrival c r
  if c.good then { r' with acq := some c } else r'

/-- An arrival handled according to the path's state (R3). -/
def takeArrival (p : Port) (x : PathName) (c : Copy) (s : State) : State :=
  let r := pathRec s p x
  match r.state with
  | .disabled => s
  | .dark => setPath p x (acquireArrival c { PathRec.dark with rx := r.rx, state := .acquire }) s
  | .acquire => setPath p x (acquireArrival c r) s
  | .up | .degraded =>
    let r' := recordArrival c r
    placeCopy p c <|
      setPath p x { r' with suspectCount := if c.good then r.suspectCount else min 255 (r.suspectCount + 1) } s

/-- A recovered frame period of a reference path ends at a frame's arrival, so an interval that waited begins (R25,
R27). -/
def endPeriod (p : Port) (x : PathName) (s : State) : State :=
  let m := s.clock.monitors.get p
  if m.ref == some x && m.interval == .awaiting then setMonitor p { m with interval := .running } s else s

/-- FRAME_ARRIVAL: a downstream frame completes at a path receiver (R1, R2, R3), which then examines the next word. -/
def arriveFrame (p : Port) (x : PathName) (f : Frame) (s : State) : State :=
  if receiving s p x && f[0] == syncWord then
    let s := setPath p x { pathRec s p x with rx := .nextWord } s
    settle (takeArrival p x (copyOf x f) (endPeriod p x s))
  else s

/-- SYNC_WORD_MATCH: a hunting receiver compares 32 consecutive received bits with the sync word (R1). -/
def matchSync (p : Port) (x : PathName) (bits : Word) (s : State) : State :=
  let r := pathRec s p x
  if receiving s p x && r.rx == .hunting && bits == syncWord then setPath p x { r with rx := .inFrame } s else s

/-- RETURN_TO_HUNTING: the word after a completed frame is examined; the next frame begins there if it is the sync
word, and the receiver hunts again if it is not (R1). -/
def examineNext (p : Port) (x : PathName) (next : Word) (s : State) : State :=
  let r := pathRec s p x
  if receiving s p x && r.rx == .nextWord then
    setPath p x { r with rx := if next == syncWord then .inFrame else .hunting } s
  else s

/-- LOSS_OF_SIGNAL: the partial frame is discarded; on the reference path the interval is abandoned, and the reference
moves if the other path carries the port and has signal (R1, R25, R28). -/
def loseSignal (p : Port) (x : PathName) (s : State) : State :=
  if hasSignal s p x then
    let s := s.withSignal (s.signal.set p ((s.signal.get p).set x false))
    let s := setPath p x { pathRec s p x with rx := .hunting } s
    let m := s.clock.monitors.get p
    let y := otherPath x
    if m.ref == some x then
      if carries (pathRec s p y) && hasSignal s p y then moveReference p y s
      else setMonitor p { m with interval := .none } s
    else s
  else s

/-- SIGNAL_RETURN: the receiver resumes hunting; on a reference path recovered periods resume, which ends a holdover
of the selected port as a switch does and lets measuring begin afresh (R1, R25, R26, R27). -/
def returnSignal (p : Port) (x : PathName) (s : State) : State :=
  if hasSignal s p x then s
  else
    let s := s.withSignal (s.signal.set p ((s.signal.get p).set x true))
    let s := setPath p x { pathRec s p x with rx := .hunting } s
    let m := s.clock.monitors.get p
    if m.ref == some x then switchIfSource p (setMonitor p { m with interval := .awaiting } s) else s

/-! ## Going UP (R5, R11, R30) -/

/-- A port that was OFFLINE goes ONLINE by a path: its window is re-centred on the path's acquisition frame, its clock
state becomes CHECKING with that path as reference, and it makes no playout at this boundary (R11, R25, R30). -/
def goOnline (p : Port) (x : PathName) (acq : Option Copy) (s : State) : State :=
  let s := match acq with
    | some c => setMerge p (recentre c (s.merges.get p)) s
    | none => s
  let s := setMonitor p
    { s.clock.monitors.get p with state := .checking, run := 0, ref := some x, interval := freshInterval s p x } s
  reselect (s.withLatch { s.latch with cameUp := s.latch.cameUp.set p true })

/-- A path in ACQUIRE enters UP with a new degrade block and hands its acquisition frame to the merge (R5, R11). -/
def goUp (p : Port) (x : PathName) (goodCount : Nat) (s : State) : State :=
  let r := pathRec s p x
  let s' := setPath p x { PathRec.dark with rx := r.rx, state := .up, goodCount := goodCount } s
  if online s p then
    match r.acq with
    | some c => placeCopy p c s'
    | none => s'
  else goOnline p x r.acq s'

/-- A receiver that has gone DARK or been disabled: everything it held is cleared (R5, R6, R8). -/
def clearedPath (state : PathState) (r : PathRec) : PathRec :=
  { PathRec.dark with state := state, rx := if state == .disabled then .hunting else r.rx }

/-! ## Boundary scores (R4 to R7) -/

/-- The interval record cleared after a score (R4). -/
def clearInterval (r : PathRec) : PathRec := { r with arrived := false, good := false, suspect := false }

/-- A path in ACQUIRE applies its score (R5). -/
def scoreAcquire (p : Port) (x : PathName) (s : State) : State :=
  let r := pathRec s p x
  if !r.arrived then
    if 12 ≤ r.missRun + 1 then setPath p x (clearedPath .dark r) s
    else setPath p x (clearInterval { r with goodCount := 0, missRun := r.missRun + 1 }) s
  else if r.suspect then setPath p x (clearInterval { r with goodCount := 0, missRun := 0 }) s
  else if 48 ≤ r.goodCount + 1 then goUp p x (r.goodCount + 1) s
  else setPath p x (clearInterval { r with goodCount := r.goodCount + 1, missRun := 0 }) s

/-- The degrade block of a path advanced by one boundary, and judged at 256 (R7). -/
def advanceBlock (r : PathRec) : PathRec :=
  if 256 ≤ r.blockCount + 1 then
    { r with state := if 8 ≤ r.suspectCount then .degraded else .up, blockCount := 0, suspectCount := 0 }
  else { r with blockCount := r.blockCount + 1 }

/-- A path in UP or DEGRADED applies its score (R6, R7). -/
def scoreCarrying (p : Port) (x : PathName) (s : State) : State :=
  let r := pathRec s p x
  let missRun := if r.arrived then 0 else r.missRun + 1
  if 12 ≤ missRun then leaveCarrying p x (clearedPath .dark r) s
  else setPath p x (clearInterval (advanceBlock { r with missRun := missRun })) s

/-- A path's boundary score (R4). -/
def scorePath (p : Port) (x : PathName) (s : State) : State :=
  match (pathRec s p x).state with
  | .disabled | .dark => s
  | .acquire => settle (scoreAcquire p x s)
  | .up | .degraded => settle (scoreCarrying p x s)

/-! ## Enabling and disabling (R8) -/

/-- A path's flag is cleared by a write: the path enters DISABLED from whatever state it is in. -/
def disablePath (p : Port) (x : PathName) (s : State) : State :=
  let r := pathRec s p x
  if carries r then leaveCarrying p x (clearedPath .disabled r) s else setPath p x (clearedPath .disabled r) s

/-- A path's flag is set by a write: a DISABLED path enters DARK and hunts for sync. -/
def enablePath (p : Port) (x : PathName) (s : State) : State :=
  if (pathRec s p x).state == .disabled then setPath p x .dark s else s

/-- One path after a write of PATH_ENABLE that changes its flag from `before` to `after`. -/
def writePathFlag (before after : Bool) (p : Port) (x : PathName) (s : State) : State :=
  match before, after with
  | true, false => disablePath p x s
  | false, true => enablePath p x s
  | _, _ => s

end Sys2Proof.Machine
end

