-- ==== Sys2Proof/Machine/Clock.lean ====
section
/-! DEFINITION. The stage clock (chapter 2): judging an interval, READ_CLOCK's snapshot, the commands of the link and
the clock that no message carries. -/
namespace Sys2Proof.Machine

/-- A count from 2,456,372 to 2,458,828 is in tolerance (R27). -/
def inTolerance (ticks : Nat) : Bool := 2456372 ≤ ticks && ticks ≤ 2458828

/-- The clock state and run after a completed interval's verdict (R29). -/
def verdict (ok : Bool) (m : Monitor) : Monitor :=
  match m.state, ok with
  | .unusable, _ => m
  | .checking, true => if 10 ≤ m.run + 1 then { m with state := .good, run := 0 } else { m with run := m.run + 1 }
  | .checking, false => { m with run := 0 }
  | .good, true => { m with run := 0 }
  | .good, false => if 2 ≤ m.run + 1 then { m with state := .bad, run := 0 } else { m with run := m.run + 1 }
  | .bad, true => if 10 ≤ m.run + 1 then { m with state := .good, run := 0 } else { m with run := m.run + 1 }
  | .bad, false => { m with run := 0 }

/-- A port has an interval in progress, which alone can complete: an abandoned one gives no verdict, and a fresh one that
still waits for its first period's end has not begun (R27, R28). -/
def measuring (s : State) (p : Port) : Bool := online s p && (s.clock.monitors.get p).interval == .running

/-- INTERVAL_COMPLETE: the count, which stops at 4,194,303, becomes the last count; its verdict is applied; the next
interval starts at once; a change of state re-evaluates the selection, and GOOD to BAD raises CLOCK_REJECT (R27, R29,
R32, R34). -/
def completeInterval (p : Port) (ticks : Nat) (s : State) : State :=
  let m := s.clock.monitors.get p
  let count := min ticks 4194303
  let m' := verdict (inTolerance count) { m with last := count, interval := .running }
  let s := setMonitor p m' s
  let s := if m.state == .good && m'.state == .bad then raiseAll .clockReject s else s
  settle (if m'.state != m.state then reselect s else s)

/-! ## READ_CLOCK (R36; chapter 12, "READ_CLOCK has 11 words") -/

/-- The setting form of CLOCK_PRIORITY (chapter 12, "Setting values"). -/
def priorityForm (l : List Port) : Nat :=
  let entry (i : Nat) : Nat := match l[i]? with
    | some p => portNo p
    | none => 0
  fieldAt 2 0 l.length + fieldAt 4 3 (entry 0) + fieldAt 6 5 (entry 1) + fieldAt 8 7 (entry 2)

/-- The first word: source, priority list, path states. -/
def clockWord1 (s : State) : Payload :=
  payload <| fieldAt 1 0 (partyCode s.clock.source) :: fieldAt 10 2 (priorityForm s.settings.clockPriority) ::
    ports.flatMap fun p => pathNames.map fun x =>
      let i := 11 + 3 * (2 * portNo p + match x with | .a => 0 | .b => 1)
      fieldAt (i + 2) i (pathStateNo (pathRec s p x).state)

/-- The word of a port's monitor. -/
def monitorWord (m : Monitor) : Payload :=
  payload [fieldAt 21 0 m.last, fieldAt 23 22 (clockStateNo m.state), fieldAt 27 24 m.run, fieldAt 29 28 (pathCode m.ref)]

/-- The two words of a port's merge counts. -/
def mergeWords (m : Merge) : List Payload :=
  [payload [fieldAt 15 0 m.slips.toNat, fieldAt 29 16 m.lates.toNat],
   payload [fieldAt 15 0 m.dups.toNat, fieldAt 29 16 m.resyncs.toNat]]

/-- The last word: the upper bits of the late and resync counts and the last delivered paths. -/
def clockWord11 (s : State) : Payload :=
  payload <| ports.flatMap fun p =>
    let m := s.merges.get p
    let i := 6 * portNo p
    [fieldAt (i + 1) i (bitsAt 15 14 m.lates.toNat), fieldAt (i + 3) (i + 2) (bitsAt 15 14 m.resyncs.toNat),
     fieldAt (i + 5) (i + 4) (pathCode m.lastPath)]

/-- The 11 BODY words of a READ_CLOCK reply. -/
def clockSnapshot (s : State) : List Payload :=
  clockWord1 s :: (ports.map fun p => monitorWord (s.clock.monitors.get p))
    ++ (ports.flatMap fun p => mergeWords (s.merges.get p)) ++ [clockWord11 s]

/-- READ_CLOCK (R36). -/
def answerReadClock (_p : Port) (m : Msg) (s : State) : Answer :=
  judged [(m.body.length != 0, .badLength)] s ⟨.done, clockSnapshot s, s⟩

/-! ## The commands -/

/-- FRAME_ARRIVAL (R1, R2, R3). -/
def execFrameArrival (p : Port) (x : PathName) (f : Frame) (s : State) : Host.Outcome State Fault Refusal :=
  whileRunning s (arriveFrame p x f)

/-- LOSS_OF_SIGNAL (R1, R25, R28). While RSTN is low only the pin is recorded. -/
def execLossOfSignal (p : Port) (x : PathName) (s : State) : Host.Outcome State Fault Refusal :=
  .next (if s.rstn then loseSignal p x s else s.withSignal (s.signal.set p ((s.signal.get p).set x false)))

/-- SIGNAL_RETURN (R1, R25, R26). While RSTN is low only the pin is recorded. -/
def execSignalReturn (p : Port) (x : PathName) (s : State) : Host.Outcome State Fault Refusal :=
  .next (if s.rstn then returnSignal p x s else s.withSignal (s.signal.set p ((s.signal.get p).set x true)))

/-- SYNC_WORD_MATCH (R1). -/
def execSyncWordMatch (p : Port) (x : PathName) (bits : Word) (s : State) : Host.Outcome State Fault Refusal :=
  whileRunning s (matchSync p x bits)

/-- RETURN_TO_HUNTING (R1). -/
def execReturnToHunting (p : Port) (x : PathName) (next : Word) (s : State) : Host.Outcome State Fault Refusal :=
  whileRunning s (examineNext p x next)

/-- INTERVAL_COMPLETE: no effect where no interval is in progress (R27, R28, R29). -/
def execIntervalComplete (p : Port) (ticks : Nat) (s : State) : Host.Outcome State Fault Refusal :=
  whileRunning s (onlyIf (measuring s p) (completeInterval p ticks))

/-- READ_CLOCK (R36). -/
def execReadClock (p : Port) (m : Msg) (s : State) : Host.Outcome State Fault Refusal :=
  whileRunning s (fromDesk p (deliver p (kindCode .readClock) m answerReadClock))

end Sys2Proof.Machine
end

