-- ==== Sys2Proof/Machine/Talkback.lean ====
section
/-! DEFINITION. Talkback (chapter 10): keys, stage talk, calls, desk talk masks. -/
namespace Sys2Proof.Machine

/-! ## Keys (R162 to R165) -/

/-- A key's configuration, its KEY_CONFIG item. -/
def keyConfig (s : State) (k : KeyId) : KeyConfig := s.settings.keys[k]

/-- A key is talking (R163): MOMENTARY while PRESSED; LATCH while RELEASED or PRESSED with its toggle ON. -/
def talking (s : State) (k : KeyId) : Bool :=
  if (keyConfig s k).latch then
    (s.keys[k].state == .released || s.keys[k].state == .pressed) && s.keys[k].toggle
  else s.keys[k].state == .pressed

/-- A call of a key raised at one port: a clear entry becomes pending with its mark clear if the port is in the key's
mask and PRESENT; an entry already pending stays as it is (R170). -/
def raiseCallAt (k : KeyId) (s : State) (p : Port) : State :=
  if (keyConfig s k).ports.get p && (s.presence.get p).present && !(s.calls.get p)[k].pending then
    setCall p k { pending := true, acked := false } s
  else s

/-- A call of a key cleared at one port. -/
def clearCall (k : KeyId) (s : State) (p : Port) : State := setCall p k { pending := false, acked := false } s

/-- A debounced press (R163): a RELEASED key goes PRESSED, a LATCH key's toggle changes, and calls are raised. -/
def pressKey (k : KeyId) (s : State) : State :=
  let r := s.keys[k]
  match r.state with
  | .released =>
    ports.foldl (raiseCallAt k)
      (setKey k { r with state := .pressed, toggle := if (keyConfig s k).latch then !r.toggle else r.toggle } s)
  | .disabled | .arming | .pressed => s

/-- A key's release at one port's entry: an acknowledged call is cleared, another waits (R171). -/
def releaseCallAt (k : KeyId) (s : State) (p : Port) : State :=
  if (s.calls.get p)[k].pending && (s.calls.get p)[k].acked then clearCall k s p else s

/-- A debounced release (R163): ARMING and PRESSED go RELEASED, and a PRESSED key's acknowledged calls are cleared. -/
def releaseKey (k : KeyId) (s : State) : State :=
  let r := s.keys[k]
  match r.state with
  | .arming => setKey k { r with state := .released } s
  | .pressed => ports.foldl (releaseCallAt k) (setKey k { r with state := .released } s)
  | .disabled | .released => s

/-- A key in ARMING whose debounced level is UP goes to RELEASED (R164). -/
def leaveArming (k : KeyId) (s : State) : State :=
  let r := s.keys[k]
  if r.state == .arming && !r.down then setKey k { r with state := .released } s else s

/-- The debouncing of one key by one sample of its line (R162). -/
def debounce (k : KeyId) (s : State) : State :=
  let r := s.keys[k]
  let low := s.latch.keyLow[k]
  if low == r.down then setKey k { r with stab := 0 } s
  else if 24 ≤ r.stab + 1 then
    let s := setKey k { r with down := low, stab := 0 } s
    if low then pressKey k s else releaseKey k s
  else setKey k { r with stab := r.stab + 1 } s

/-- A key's boundary work: the debouncing, then ARMING's end (R162, R164). -/
def keyWork (k : KeyId) (s : State) : State := leaveArming k (debounce k s)

/-- A write of KEY_CONFIG handed to talkback, with the configuration it replaces (R165): first the enable and the mode,
then each port removed from the mask loses its call. -/
def applyKeyConfig (k : KeyId) (old : KeyConfig) (s : State) : State :=
  let new := keyConfig s k
  let r := s.keys[k]
  let s :=
    if !new.enabled then
      ports.foldl (clearCall k) (setKey k { r with state := .disabled, toggle := false } s)
    else if r.state == .disabled then setKey k { r with state := .arming, toggle := false } s
    else if new.latch != old.latch then setKey k { r with toggle := false } s
    else s
  ports.foldl (fun s p => if old.ports.get p && !new.ports.get p then clearCall k s p else s) s

/-! ## Stage talk (R167, R168) -/

/-- Stage talk to a port is active while an enabled key whose mask includes the port is talking (R167). -/
def stageTalkActive (s : State) (p : Port) : Bool :=
  (List.finRange 4).any fun k => (keyConfig s k).enabled && (keyConfig s k).ports.get p && talking s k

/-- The 8 stage talk samples of a port's frame (R168). -/
def stageTalk (s : State) (p : Port) : SampleFrame :=
  if stageTalkActive s p then (scaleFrame (handedOn s s.settings.talkSource) s.settings.talkLevel).1 else zeroFrame

/-! ## ACK_CALL and TALK (R171, R172, R175) -/

/-- The key a message's argument names; the index test refuses an argument above 3 before this is used. -/
def keyArg (m : Msg) : KeyId := ⟨m.arg.toNat % 4, Nat.mod_lt _ (by decide)⟩

/-- A port's call of a key acknowledged (R171): marked while the key is PRESSED, cleared otherwise; a clear entry is
left as it is. One marked ahead of the port's expiry at the same boundary ends with that boundary's presence work
(R174). -/
def ackCall (atExpiry : Bool) (p : Port) (k : KeyId) (s : State) : State :=
  let e := (s.calls.get p)[k]
  if e.pending then
    if s.keys[k].state == .pressed then setCall p k { e with acked := true, ending := e.ending || atExpiry } s
    else clearCall k s p
  else s

/-- The ACK_CALL reply word: key k pending at bit 2k, acknowledged at bit 2k + 1. -/
def callsWord (s : State) (p : Port) : Payload :=
  payload <| (List.finRange 4).flatMap fun k =>
    [flagAt (2 * k.val) (s.calls.get p)[k].pending, flagAt (2 * k.val + 1) (s.calls.get p)[k].acked]

/-- ACK_CALL (R172), with the state before its completion restarted the port's timer. -/
def answerAckCall (before : State) (p : Port) (m : Msg) (s : State) : Answer :=
  let s' := ackCall (expiryFalls before p) p (keyArg m) s
  judged [(m.body.length != 0, .badLength), (3 < m.arg.toNat, .badIndex)] s ⟨.done, [callsWord s' p], s'⟩

/-- TALK (R175): the new mask replaces the port's talk mask whole. -/
def answerTalk (p : Port) (m : Msg) (s : State) : Answer :=
  judged [(m.body.length != 1, .badLength)] s
    ⟨.done, [payload [fieldAt 15 0 (value16 m).toNat, flagAt 16 (s.merges.get p).talkValid]],
     s.withTalkMask (s.talkMask.set p (value16 m))⟩

/-! ## The commands -/

/-- TALK (R175). -/
def execTalk (p : Port) (m : Msg) (s : State) : Host.Outcome State Fault Refusal :=
  whileRunning s (fromDesk p (deliver p (kindCode .talk) m answerTalk))

/-- ACK_CALL (R172). -/
def execAckCall (p : Port) (m : Msg) (s : State) : Host.Outcome State Fault Refusal :=
  whileRunning s (fromDesk p fun s => deliver p (kindCode .ackCall) m (answerAckCall s) s)

end Sys2Proof.Machine
end

