-- ==== Sys2Proof/Machine/Settings.lean ====
section
/-! DEFINITION. Stage settings (chapter 8, chapter 12 "Setting values"): WRITE_SETTING and READ_SETTINGS. -/
namespace Sys2Proof.Machine

/-- The 28 items (R133). -/
inductive Item where
  | clockPriority | pathEnable
  | timeout (p : Port) | policy (p : Port)
  | trip
  | key (k : KeyId)
  | talkSource | talkLevel | duckDepth
  | alarm (f : FaultKind)
deriving DecidableEq, Repr

/-- The items in the order of their indexes 0 to 27. -/
def items : List Item :=
  [.clockPriority, .pathEnable, .timeout .p0, .timeout .p1, .timeout .p2, .policy .p0, .policy .p1, .policy .p2, .trip,
   .key 0, .key 1, .key 2, .key 3, .talkSource, .talkLevel, .duckDepth] ++ faultKinds.map .alarm

/-- The item of an index. -/
def itemOf (n : Nat) : Option Item := items[n]?

/-- The index of an item. -/
def itemNo : Item → Nat
  | .clockPriority => 0 | .pathEnable => 1
  | .timeout p => 2 + portNo p | .policy p => 5 + portNo p
  | .trip => 8
  | .key k => 9 + k.val
  | .talkSource => 13 | .talkLevel => 14 | .duckDepth => 15
  | .alarm f => 16 + (faultNo f).val

/-! ## Values (R134, R190) -/

/-- The length of a written CLOCK_PRIORITY, bits 2–0. -/
def priorityLength (v : Nat) : Nat := bitsAt 2 0 v

/-- The entries of a written CLOCK_PRIORITY within its length, as party codes. -/
def priorityCodes (v : Nat) : List Nat :=
  (List.range (min 3 (priorityLength v))).map fun i => bitsAt (4 + 2 * i) (3 + 2 * i) v

/-- The number an item with a range is written with: a signed 16-bit value. -/
def writtenNumber (v : Nat) : Int := signedOf 16 v

/-- An item's number brought into its range (R134); items without a range keep the number. -/
def clampItem (i : Item) (n : Int) : Int :=
  match i with
  | .talkLevel => clampTo (-60) 36 n
  | .duckDepth => clampTo 0 60 n
  | _ => n

/-- The write is clamped. -/
def itemClamped (i : Item) (v : Nat) : Bool := clampItem i (writtenNumber v) != writtenNumber v

/-- A value that names a channel above 47 (R134, index test). -/
def itemBadIndex (i : Item) (v : Nat) : Bool :=
  match i with
  | .talkSource => 47 < v
  | _ => false

/-- A value refused with BAD_VALUE (R134, value test). -/
def itemBadValue (i : Item) (v : Nat) : Bool :=
  match i with
  | .clockPriority => 3 < priorityLength v || (priorityCodes v).contains 3 || !decide (priorityCodes v).Nodup
  | .timeout _ | .trip => 3 < v
  | .policy _ => 1 < v
  | .alarm _ => 2 < v
  | .pathEnable | .key _ | .talkSource | .talkLevel | .duckDepth => false

/-- A written KEY_CONFIG. -/
def keyConfigOf (v : Nat) : KeyConfig :=
  { enabled := bitAt 0 v, latch := bitAt 1 v, ports := .of fun p => bitAt (2 + portNo p) v }

/-- The line an ALARM_MAP value names. -/
def alarmLineOf (v : Nat) : Option Line :=
  match v with
  | 1 => some .line0 | 2 => some .line1 | _ => none

/-- The settings with one item replaced whole by a written value, clamped where it has a range (R135, step 1). -/
def putItem (i : Item) (v : Nat) (st : Settings) : Settings :=
  match i with
  | .clockPriority => { st with clockPriority := (priorityCodes v).filterMap portOf }
  | .pathEnable =>
    { st with pathEnable := .of fun p => ⟨bitAt (2 * portNo p) v, bitAt (2 * portNo p + 1) v⟩ }
  | .timeout p => { st with timeout := st.timeout.set p (BitVec.ofNat 2 v) }
  | .policy p => { st with policy := st.policy.set p (if v = 1 then .report else .release) }
  | .trip => { st with trip := BitVec.ofNat 2 v }
  | .key k => { st with keys := vset st.keys k (keyConfigOf v) }
  | .talkSource => { st with talkSource := ⟨v % 48, Nat.mod_lt _ (by decide)⟩ }
  | .talkLevel => { st with talkLevel := clampItem .talkLevel (writtenNumber v) }
  | .duckDepth => { st with duckDepth := clampItem .duckDepth (writtenNumber v) }
  | .alarm f => { st with alarmMap := vset st.alarmMap (faultNo f) (alarmLineOf v) }

/-- The 16-bit stored form of an item (R190; chapter 12, "Setting values"). -/
def storedForm (st : Settings) (i : Item) : BitVec 16 :=
  match i with
  | .clockPriority => BitVec.ofNat 16 (priorityForm st.clockPriority)
  | .pathEnable => BitVec.ofNat 16 (ports.map fun p =>
      flagAt (2 * portNo p) (st.pathEnable.get p).a + flagAt (2 * portNo p + 1) (st.pathEnable.get p).b).sum
  | .timeout p => (st.timeout.get p).setWidth 16
  | .policy p => match st.policy.get p with | .release => 0 | .report => 1
  | .trip => st.trip.setWidth 16
  | .key k =>
    let c := st.keys[k]
    BitVec.ofNat 16 (flagAt 0 c.enabled + flagAt 1 c.latch
      + (ports.map fun p => flagAt (2 + portNo p) (c.ports.get p)).sum)
  | .talkSource => BitVec.ofNat 16 st.talkSource.val
  | .talkLevel => BitVec.ofInt 16 st.talkLevel
  | .duckDepth => BitVec.ofInt 16 st.duckDepth
  | .alarm f => match st.alarmMap[faultNo f] with | none => 0 | some .line0 => 1 | some .line1 => 2

/-! ## Writing (R134, R135) -/

/-- The six flags of PATH_ENABLE handed to the path receivers, with the flags they replace (R8). -/
def applyPathEnable (old : PerPort (PerPath Bool)) (s : State) : State :=
  let flags := s.settings.pathEnable
  settle <| ports.foldl (fun s p => pathNames.foldl (fun s x =>
    writePathFlag ((old.get p).get x) ((flags.get p).get x) p x s) s) s

/-- A new value handed to the block that reads the item (R135, step 3); `old` are the settings it replaces. The blocks
that read the remaining items use the value in the events that follow (R61, R112, R155, R169), a timeout from the next
boundary on (R61). -/
def applyItem (i : Item) (old : Settings) (s : State) : State :=
  match i with
  | .clockPriority => settle (reselect s)
  | .pathEnable => applyPathEnable old.pathEnable s
  | .key k => applyKeyConfig k old.keys[k] s
  | .alarm _ => driveLines s
  | .timeout q => holdTimeout q (old.timeout.get q) s
  | .policy _ | .trip | .talkSource | .talkLevel | .duckDepth => s

/-- The stored value and its SETTING entry (R135, steps 1 and 2). -/
def storeItem (p : Port) (i : Item) (v : Nat) (s : State) : State :=
  let s := s.withSettings (putItem i v s.settings)
  appendEntry .setting (itemNo i) (some p) (storedForm s.settings i) s

/-- An accepted WRITE_SETTING (R135). -/
def writeItem (p : Port) (i : Item) (v : Nat) (s : State) : Answer :=
  let s' := storeItem p i v s
  ⟨if itemClamped i v then .clamped else .done,
   [payload [fieldAt 15 0 (storedForm s'.settings i).toNat, fieldAt 20 16 (itemNo i)], payload [fieldAt 15 0 (genLow s')]],
   applyItem i s.settings s'⟩

/-- WRITE_SETTING (R134, R135). -/
def answerWriteSetting (p : Port) (m : Msg) (s : State) : Answer :=
  let v := (value16 m).toNat
  match itemOf m.arg.toNat with
  | none => refuse (if m.body.length != 1 then .badLength else .badIndex) s
  | some i =>
    judged [(m.body.length != 1, .badLength), (itemBadIndex i v, .badIndex), (itemBadValue i v, .badValue)] s
      (writeItem p i v s)

/-- READ_SETTINGS (R137, R190): two items to a word, then the generation. -/
def answerReadSettings (_p : Port) (m : Msg) (s : State) : Answer :=
  let form (n : Nat) : Nat := match itemOf n with
    | some i => (storedForm s.settings i).toNat
    | none => 0
  judged [(m.body.length != 0, .badLength)] s
    ⟨.done, ((List.range 14).map fun w => payload [fieldAt 14 0 (form (2 * w)), fieldAt 29 15 (form (2 * w + 1))])
       ++ [payload [fieldAt 15 0 (genLow s)]], s⟩

/-- The message of a WRITE_SETTING that names an item. -/
def itemMsg (i : Item) (m : SettingMsg) : Msg := ⟨m.tag, BitVec.ofNat 9 (itemNo i), m.body⟩

/-- A WRITE_SETTING of a named item delivered. -/
def deliverWrite (p : Port) (i : Item) (m : SettingMsg) (s : State) : State :=
  deliver p (kindCode .writeSetting) (itemMsg i m) answerWriteSetting s

/-! ## The commands -/

/-- WRITE_CLOCK_PRIORITY: WRITE_SETTING of item 0 (R31, R134, R135). -/
def execWriteClockPriority (p : Port) (m : SettingMsg) (s : State) : Host.Outcome State Fault Refusal :=
  whileRunning s (fromDesk p (deliverWrite p .clockPriority m))

/-- WRITE_PATH_ENABLE: WRITE_SETTING of item 1 (R8). -/
def execWritePathEnable (p : Port) (m : SettingMsg) (s : State) : Host.Outcome State Fault Refusal :=
  whileRunning s (fromDesk p (deliverWrite p .pathEnable m))

/-- WRITE_PRESENCE_TIMEOUT: WRITE_SETTING of items 2 to 4 (R61). -/
def execWritePresenceTimeout (p q : Port) (m : SettingMsg) (s : State) : Host.Outcome State Fault Refusal :=
  whileRunning s (fromDesk p (deliverWrite p (.timeout q) m))

/-- WRITE_PRESENCE_POLICY: WRITE_SETTING of items 5 to 7 (R61). -/
def execWritePresencePolicy (p q : Port) (m : SettingMsg) (s : State) : Host.Outcome State Fault Refusal :=
  whileRunning s (fromDesk p (deliverWrite p (.policy q) m))

/-- WRITE_PHANTOM_TRIP: WRITE_SETTING of item 8 (R112). -/
def execWritePhantomTrip (p : Port) (m : SettingMsg) (s : State) : Host.Outcome State Fault Refusal :=
  whileRunning s (fromDesk p (deliverWrite p .trip m))

/-- WRITE_KEY_CONFIG: WRITE_SETTING of items 9 to 12 (R165). -/
def execWriteKeyConfig (p : Port) (k : KeyId) (m : SettingMsg) (s : State) : Host.Outcome State Fault Refusal :=
  whileRunning s (fromDesk p (deliverWrite p (.key k) m))

/-- WRITE_TALK_SOURCE: WRITE_SETTING of item 13 (R169). -/
def execWriteTalkSource (p : Port) (m : SettingMsg) (s : State) : Host.Outcome State Fault Refusal :=
  whileRunning s (fromDesk p (deliverWrite p .talkSource m))

/-- WRITE_STAGE_TALK_LEVEL: WRITE_SETTING of item 14 (R169). -/
def execWriteStageTalkLevel (p : Port) (m : SettingMsg) (s : State) : Host.Outcome State Fault Refusal :=
  whileRunning s (fromDesk p (deliverWrite p .talkLevel m))

/-- WRITE_DUCK_DEPTH: WRITE_SETTING of item 15 (R155). -/
def execWriteDuckDepth (p : Port) (m : SettingMsg) (s : State) : Host.Outcome State Fault Refusal :=
  whileRunning s (fromDesk p (deliverWrite p .duckDepth m))

/-- WRITE_ALARM_MAP: WRITE_SETTING of items 16 to 27 (R187). -/
def execWriteAlarmMap (p : Port) (f : FaultKind) (m : SettingMsg) (s : State) : Host.Outcome State Fault Refusal :=
  whileRunning s (fromDesk p (deliverWrite p (.alarm f) m))

/-- WRITE_SETTING_BAD_ITEM: WRITE_SETTING with the item its argument names; above 27 it is refused with BAD_INDEX
(R134). -/
def execWriteSettingBadItem (p : Port) (m : Msg) (s : State) : Host.Outcome State Fault Refusal :=
  whileRunning s (fromDesk p (deliver p (kindCode .writeSetting) m answerWriteSetting))

/-- READ_SETTINGS (R137). -/
def execReadSettings (p : Port) (m : Msg) (s : State) : Host.Outcome State Fault Refusal :=
  whileRunning s (fromDesk p (deliver p (kindCode .readSettings) m answerReadSettings))

end Sys2Proof.Machine
end

