-- ==== Sys2Proof/Machine/Lane.lean ====
section
/-! DEFINITION. The control lane (chapter 3): which block handles a kind, the assembly of messages from control words,
the reply words of an upstream frame. -/
namespace Sys2Proof.Machine

/-- A message of a kind the part does not know is answered UNKNOWN (R46). -/
def answerUnknown (_p : Port) (_m : Msg) (s : State) : Answer := refuse .unknown s

/-- The block that owns a kind (chapter 3, "Message kinds"), given the state before the message; KEEPALIVE has no reply
and no handler of its own. -/
def handlerOf (before : State) : Kind → Port → Msg → State → Answer
  | .keepalive => answerUnknown
  | .claimChannels => answerClaimChannels
  | .releaseChannels => answerReleaseChannels
  | .claimOutputs => answerClaimOutputs
  | .releaseOutputs => answerReleaseOutputs
  | .readOwners => answerReadOwners
  | .setGain => answerSetGain
  | .setPad => answerSetPad
  | .setPhantom => answerSetPhantom
  | .readMeters => answerReadMeters
  | .setTrim => answerSetTrim
  | .setTracking => answerSetTracking
  | .readTracking => answerReadTracking
  | .phantomReset => answerPhantomReset
  | .readPhantom => answerReadPhantom
  | .readChanges => answerReadChanges
  | .readChannels => answerReadChannels
  | .writeSetting => answerWriteSetting
  | .readSettings => answerReadSettings
  | .readClock => answerReadClock
  | .setOutput => answerSetOutput
  | .readOutputs => answerReadOutputs
  | .talk => answerTalk
  | .ackCall => answerAckCall before
  | .clearFaults => answerClearFaults
  | .readFaults => answerReadFaults

/-- A complete message for us from a port (R45, R46): KEEPALIVE is its first step alone, any other kind is delivered. -/
def completeMessage (p : Port) (kind : BitVec 6) (m : Msg) (s : State) : State :=
  match kindOf kind with
  | some .keepalive => heard p s
  | some k => deliver p kind m (handlerOf s k) s
  | none => deliver p kind m answerUnknown s

/-! ## Assembly (R39 to R44) -/

/-- A port's assembly record replaced. -/
def setAssembly (p : Port) (a : Option Assembly) (s : State) : State := setLane p { s.lanes.get p with asm := a } s

/-- The message in progress dropped or aborted: the record becomes EMPTY, with CONTROL_DROP if it was for us (R40, R42,
R43, R44). -/
def dropPartial (p : Port) (s : State) : State :=
  match (s.lanes.get p).asm with
  | none => s
  | some a =>
    let s := setAssembly p none s
    if a.forUs then raiseAt .controlDrop p s else s

/-- A complete message: the record returns to EMPTY; one for us is handled, another is dropped silently (R41). -/
def finishMessage (p : Port) (a : Assembly) (s : State) : State :=
  let s := setAssembly p none s
  if a.forUs then completeMessage p a.kind ⟨a.tag, a.arg, a.body⟩ s else s

/-- A HEAD word drops a partial message and begins a new one, which completes at once if its length is 0 (R40). -/
def takeHead (p : Port) (w : Word) (s : State) : State :=
  let a := headAssembly s.unitAddr w
  let s := setAssembly p (some a) (dropPartial p s)
  if a.length = 0 then finishMessage p a s else s

/-- A BODY word advances the message in progress, or is stray and raises CONTROL_DROP (R41). -/
def takeBody (p : Port) (w : Word) (s : State) : State :=
  match (s.lanes.get p).asm with
  | none => raiseAt .controlDrop p s
  | some a =>
    let a := { a with
      count := a.count + 1
      body := if a.forUs then a.body ++ [w.setWidth 30] else a.body }
    if a.length ≤ a.count then finishMessage p a s else setAssembly p (some a) s

/-- One control word taken by the inbound lane (R39 to R42). -/
def takeWord (p : Port) (w : Word) (s : State) : State :=
  match wordType w with
  | 0 => s
  | 1 => takeHead p w s
  | 2 => takeBody p w s
  | _ => dropPartial p s

/-- The four control words of a delivered GOOD frame, one after another; once a message has taken its own port OFFLINE
the rest are discarded unexamined (R39). -/
def takeWords (p : Port) (ws : List Word) (s : State) : State :=
  ws.foldl (fun s w => if online s p then takeWord p w s else s) s

/-! ## Reply words (R51) -/

/-- The next reply word of a lane, IDLE where the queue has none, and the lane after it is taken: a reply whose last
word is taken leaves the queue. -/
def nextReplyWord (unitAddr : BitVec 2) (l : Lane) : Word × Lane :=
  match l.queue with
  | [] => (0, l)
  | r :: rest =>
    let words := replyWords unitAddr r
    (words.getD l.sent 0,
     if words.length ≤ l.sent + 1 then { l with queue := rest, sent := 0 } else { l with sent := l.sent + 1 })

/-- The lane after n reply words are taken. -/
def laneAfter (unitAddr : BitVec 2) (l : Lane) : Nat → Lane
  | 0 => l
  | n + 1 => (nextReplyWord unitAddr (laneAfter unitAddr l n)).2

/-- The four reply words of a frame, in order. -/
def replyLanes (unitAddr : BitVec 2) (l : Lane) : Vector Word 4 :=
  Vector.ofFn fun i : Fin 4 => (nextReplyWord unitAddr (laneAfter unitAddr l i.val)).1

/-! ## The commands -/

/-- UNKNOWN_KIND_MESSAGE: a complete message whose kind the part does not know (R46). -/
def execUnknownKindMessage (p : Port) (kind : BitVec 6) (m : Msg) (s : State) : Host.Outcome State Fault Refusal :=
  whileRunning s (fromDesk p (completeMessage p kind m))

end Sys2Proof.Machine
end

