-- ==== Sys2Proof/Machine/Upstream.lean ====
section
/-! DEFINITION. The upstream frames (R23, R24, R51, R53, R54, R106, R107): status words, reply words, scaled samples,
stage talk, the check. -/
namespace Sys2Proof.Machine

/-- Status word 0 of a port's frame (R53). -/
def statusWord0 (s : State) (p : Port) : Word :=
  wordOf <|
    [flagAt 31 (s.presence.get p).present, fieldAt 30 29 (portState s .p0), fieldAt 28 27 (portState s .p1),
     fieldAt 26 25 (portState s .p2), fieldAt 24 23 (partyCode s.clock.source), flagAt 22 (s.faults.sticky.get p != 0),
     fieldAt 17 16 s.unitAddr.toNat, fieldAt 15 0 (genLow s)]
    ++ (List.finRange 4).map fun k => flagAt (18 + k.val) (s.calls.get p)[k].pending

/-- Status word 1 of a port's frame, after the frame's reply words have been taken (R54). -/
def statusWord1 (s : State) (p : Port) : Word :=
  wordOf <|
    [fieldAt 31 20 (s.faults.sticky.get p).toNat, fieldAt 13 10 (s.lanes.get p).queue.length,
     flagAt 9 (trackLimitHolds s p), flagAt 8 (stageTalkActive s p)]
    ++ (List.finRange 6).map fun b => flagAt (14 + b.val) (s.phantom.banks[b].state != .normal)

/-- The header of an upstream frame: the stage frame number and this unit's address (R23, chapter 12). -/
def upHeader (s : State) : Word := wordOf [fieldAt 31 20 s.frameNo.toNat, fieldAt 1 0 s.unitAddr.toNat]

/-- A sample as a word: bits 23–0, the upper 8 bits zero. -/
def sampleWord (x : Sample) : Word := x.setWidth 32

/-- A channel's 8 samples in a port's frame: the captured frame as handed on, scaled by the port's period gain, and
whether any sample saturated (R103, R106). -/
def micFrame (s : State) (p : Port) (c : Chan) : SampleFrame × Bool :=
  scaleFrame (handedOn s c) (s.tracks.get p)[c].period

/-- Words 2 to 400 of an upstream frame, over which its check is computed (R23). -/
def UpFrame.checked (f : UpFrame) : List Word :=
  [f.header, f.status0, f.status1] ++ f.replies.toList
    ++ (f.mic.toList.flatMap fun ch => ch.toList.map sampleWord) ++ f.talk.toList.map sampleWord

/-- The 401 words of an upstream frame (chapter 12, "Frames"). -/
def UpFrame.words (f : UpFrame) : List Word := syncWord :: f.checked ++ [f.check.setWidth 32]

/-- A port's reply words taken: the lane after four words (R51). -/
def takeReplies (p : Port) (s : State) : State := setLane p (laneAfter s.unitAddr (s.lanes.get p) 4) s

/-- A port's frame but for its check; `s` is the state as it stands when the frame is built (R23). -/
def uncheckedFrame (s : State) (p : Port) : UpFrame :=
  let after := takeReplies p s
  { header := upHeader s
    status0 := statusWord0 after p
    status1 := statusWord1 after p
    replies := replyLanes s.unitAddr (s.lanes.get p)
    mic := Vector.ofFn fun c : Chan => (micFrame s p c).1
    talk := stageTalk s p
    check := 0 }

/-- A port's upstream frame with its check (R23). -/
def upFrame (s : State) (p : Port) : UpFrame :=
  let f := uncheckedFrame s p
  { f with check := frameCheck f.checked }

/-- A port's send-clip flags set where its frame saturated a sample (R89, R107). -/
def markSendClips (p : Port) (s : State) : State :=
  s.withMeters (s.meters.set p (Vector.ofFn fun c : Chan =>
    { (s.meters.get p)[c] with sendClip := (s.meters.get p)[c].sendClip || (micFrame s p c).2 }))

/-- One port's frame built and sent on the paths enabled at that moment (R23). -/
def buildFrame (s : State) (p : Port) : State :=
  let frame := upFrame s p
  let s := takeReplies p (markSendClips p s)
  s.withSent (s.sent.set p { frame := some frame, on := s.settings.pathEnable.get p })

/-- The three ports' frames built in one event, after which the stage frame number advances (R23, R24). -/
def buildFrames (s : State) : State :=
  let s := ports.foldl buildFrame s
  s.withFrameNo (s.frameNo + 1)

end Sys2Proof.Machine
end

