-- ==== Sys2Proof/Machine/Boundary.lean ====
section
/-! DEFINITION. Playout (R18 to R21), the boundary as the sum of its units of work, and the commands that are one unit
of it or RSTN. -/
namespace Sys2Proof.Machine

/-! ## Playout and concealment -/

/-- The port's window emptied and put in HUNTING (R21). -/
def resyncWindow (p : Port) (s : State) : State :=
  let m := s.merges.get p
  raiseAll .resync (setMerge p
    { m with slots := Vector.replicate 4 none, hunting := true, emptyRun := 0, resyncs := m.resyncs + 1 } s)

/-- A port's hand-off at this boundary (R140). -/
def setHandoff (p : Port) (h : Handoff) (s : State) : State :=
  s.withLatch { s.latch with handoff := s.latch.handoff.set p h }

/-- A desk talk frame: the samples as handed on while the talk-valid in force is set, else 8 zero samples (R176). -/
def deskTalkFrame (talkValid : Bool) (f : SampleFrame) : SampleFrame := if talkValid then f else zeroFrame

/-- Concealment for sample i (1 to 8) of a channel whose held sample is h, at missing run k (R20). -/
def concealSample (k : Nat) (h : Sample) (i : Nat) : Sample :=
  if k ≤ 2 then h
  else if k = 3 then BitVec.ofInt 24 (roundDiv (h.toInt * (8 - i : Int)) 8)
  else 0

/-- The 8 samples of concealment. -/
def concealFrame (k : Nat) (h : Sample) : SampleFrame := Vector.ofFn fun i : Fin 8 => concealSample k h (i.val + 1)

/-- What a merge hands on when frame P is missing, at missing run k (R20). -/
def concealment (k : Nat) (m : Merge) : Handoff :=
  { ret := Vector.ofFn fun c : Fin 16 => concealFrame k m.heldRet[c]
    talk := deskTalkFrame m.talkValid (concealFrame k m.heldTalk) }

/-- A merge after it has delivered a copy: P advances, the copy's mask and talk-valid are in force, the eighth samples
are held, both runs are 0 (R18, R19). -/
def delivered (c : Copy) (m : Merge) : Merge :=
  { advance 1 m with
    mask := c.mask, talkValid := c.talkValid, missRun := 0, emptyRun := 0, lastPath := some c.path,
    heldRet := Vector.ofFn fun i : Fin 16 => (c.ret[i])[7], heldTalk := c.talk[7] }

/-- What a merge hands on when it delivers a copy (R19). -/
def deliveredAudio (c : Copy) : Handoff := { ret := c.ret, talk := deskTalkFrame c.talkValid c.talk }

/-- A delivered frame: handed on, the outputs re-evaluated, then its control words taken, or a break if it is SUSPECT
(R18, R19, R142). -/
def deliverFrame (p : Port) (c : Copy) (s : State) : State :=
  let s' := setHandoff p (deliveredAudio c) (setMerge p (delivered c (s.merges.get p)) s)
  let s' := settle (followOutputs s s')
  if c.good then takeWords p c.control.toList s' else dropPartial p s'

/-- A missing playout: concealment, a break, and in RUNNING the empty run, which resyncs the window at 12 (R20, R21). -/
def missFrame (p : Port) (s : State) : State :=
  let m := s.merges.get p
  let k := min 4 (m.missRun + 1)
  let s := setHandoff p (concealment k m) s
  let s :=
    if m.hunting then setMerge p { m with missRun := k } s
    else
      let s := setMerge p { advance 1 m with missRun := k, emptyRun := m.emptyRun + 1 } s
      if 12 ≤ m.emptyRun + 1 then resyncWindow p s else s
  dropPartial p s

/-- The playout of an ONLINE port (R18): in HUNTING no slot is consulted. -/
def playFrame (p : Port) (s : State) : State :=
  let m := s.merges.get p
  if m.hunting then missFrame p s
  else match m.slots[0] with
    | some c => deliverFrame p c s
    | none => missFrame p s

/-- A merge's boundary work: an ONLINE port plays out, but not at the boundary at which it went ONLINE; an OFFLINE port
hands on zero audio (R11, R12, R18). -/
def playout (p : Port) (s : State) : State :=
  if !online s p then setHandoff p .zero s
  else if s.latch.cameUp.get p then s
  else playFrame p s

/-! ## The units of work -/

/-- A bank's work: its reading, if its conversion completes here and has not been judged, before its timer, which is
not advanced where this work has just set it (R113). The reading is also a unit of its own, so that a PHANTOM_RESET may
be taken between a bank's reading and its timer, an order that R120 does not list (DESIGN CHOICE, log entry 25). -/
def bankWork (b : BankId) (s : State) : State :=
  let s := if s.phantom.scan == b && fresh .reading s then markTaken .reading (readingWork s) else s
  if fresh (.bank b) s then advanceBank b s else s

/-- The effect of a unit of work. -/
def workEffect : Work → State → State
  | .score p x => scorePath p x
  | .playout p => playout p
  | .presence p => countPresence p
  | .capture c => captureFrame c
  | .mute c => countMute c
  | .reading => readingWork
  | .bank b => bankWork b
  | .holdoff o => countHoldoff o
  | .key k => keyWork k
  | .build => buildFrames
  | .stretch l => countStretch l

/-- A unit of work taken, if it has not been taken at this boundary yet. -/
def takeWork (s : State) (w : Work) : State := if fresh w s then markTaken w (workEffect w s) else s

/-- The boundary now falling has been placed: the switches since the last one are spent on it (R26). It falls with its
first unit of work. -/
def openBoundary (s : State) : State :=
  if s.latch.taken.isEmpty then s.withClock { s.clock with switched := false } else s

/-- Every unit of a boundary's work, in the order that follows what a boundary's own order names (DESIGN CHOICE, log
entry 4): scores, playouts, presence, captured frames, mute counters, the monitor, holdoffs, keys, the frames, the
stretch timers. -/
def Work.all : List Work :=
  (ports.flatMap fun p => pathNames.map (.score p)) ++ ports.map .playout ++ ports.map .presence
    ++ (List.finRange 48).map .capture ++ (List.finRange 48).map .mute
    ++ [.reading] ++ (List.finRange 6).map .bank ++ (List.finRange 16).map .holdoff ++ (List.finRange 4).map .key
    ++ [.build] ++ [.stretch .line0, .stretch .line1]

/-- The inputs of a boundary taken in, but for those whose work was already taken with its own input. -/
def latchInputs (i : BoundaryInput) (s : State) : State :=
  s.withLatch { s.latch with
    captured := Vector.ofFn fun c : Chan => if fresh (.capture c) s then i.captured[c] else s.latch.captured[c]
    keyLow := Vector.ofFn fun k : KeyId => if fresh (.key k) s then i.keyLow[k] else s.latch.keyLow[k]
    rail := if fresh .reading s then i.rail else s.latch.rail }

/-- Each record's period gain fixed as the D that the boundary's events leave (R103). -/
def fixPeriods (s : State) : State :=
  s.withTracks (.of fun p => Vector.ofFn fun c : Chan =>
    { (s.tracks.get p)[c] with period := (s.tracks.get p)[c].gain })

/-- The end of a boundary: the output frames from the state its events leave (R140), the period gains (R103), the next
bank's conversion begun (R111), and the marks of the boundary cleared. -/
def endBoundary (s : State) : State :=
  let s := fixPeriods (playOutputs s)
  let s := s.withPhantom { s.phantom with scan := s.phantom.scan + 1 }
  s.withLatch { s.latch with handoff := .of fun _ => .zero, cameUp := .of fun _ => false, taken := [] }

/-- The whole of a boundary (R26): its inputs, its work in the order it names and then the rest, its end. The units are
finer than R90's meter update, so a playout's READ_METERS may be ordered between the captures of one bank (DESIGN CHOICE,
log entry 30). -/
def boundary (i : BoundaryInput) (s : State) : State :=
  endBoundary ((i.order ++ Work.all).foldl takeWork (latchInputs i (openBoundary s)))

/-! ## The commands -/

/-- STAGE_FRAME_BOUNDARY (R26). -/
def execStageFrameBoundary (i : BoundaryInput) (s : State) : Host.Outcome State Fault Refusal :=
  whileRunning s (boundary i)

/-- One unit of the work of the boundary now falling, taken by itself and with its own input, where it comes to a
given outcome; where it would not, nothing happens (log entry 5). Another command, an arrival too, may then be given
before the boundary's remaining units, where R4 and R17 have an arrival before the whole boundary or after it (DESIGN
CHOICE, log entry 29). -/
def oneUnit (w : Work) (happens : State → Bool) (latch : State → State) (s : State) : State :=
  onlyIf (fresh w s && happens s) (fun s => takeWork (latch (openBoundary s)) w) s

/-- A path in ACQUIRE whose score brings its good count to 48 (R5). -/
def goesUp (r : PathRec) : Bool := r.state == .acquire && r.arrived && !r.suspect && 48 ≤ r.goodCount + 1

/-- A path in ACQUIRE whose score is its twelfth miss (R5). -/
def missesOut (r : PathRec) : Bool := r.state == .acquire && !r.arrived && 12 ≤ r.missRun + 1

/-- A path in UP or DEGRADED whose score is its twelfth miss (R6). -/
def goesDark (r : PathRec) : Bool := carries r && !r.arrived && 12 ≤ r.missRun + 1

/-- A path in UP or DEGRADED whose score completes its degrade block (R7). -/
def judgesBlock (r : PathRec) : Bool := carries r && !goesDark r && 256 ≤ r.blockCount + 1

/-- The port's playout at the boundary now falling is its twelfth missing one in a row (R21). -/
def resyncsNow (p : Port) (s : State) : Bool :=
  online s p && !s.latch.cameUp.get p && !(s.merges.get p).hunting && (s.merges.get p).slots[0].isNone
    && 12 ≤ (s.merges.get p).emptyRun + 1

/-- A captured frame `f` would make the channel's pending step a forced one: no crossing, and the 60th frame waited
(R78). -/
def forcedNow (c : Chan) (f : SampleFrame) (s : State) : Bool :=
  match s.channels[c].pending with
  | none => false
  | some st => !hasCrossing s.channels[c].last f && 60 ≤ st.waited + 1

/-- A bank's timer may advance: its reading, if it has one at this boundary, is judged first (R113). -/
def readingJudged (b : BankId) (s : State) : Bool := s.phantom.scan != b || !fresh .reading s

/-- A bank's holdoff timer reaches 0 at the boundary now falling (R116). -/
def holdoffEnds (b : BankId) (s : State) : Bool :=
  readingJudged b s && s.phantom.banks[b].state == .holdoff && s.phantom.banks[b].timer ≤ 1

/-- A bank's retry timer reaches 60000 at the boundary now falling (R117). -/
def watchEnds (b : BankId) (s : State) : Bool :=
  readingJudged b s && s.phantom.banks[b].state == .retry && 60000 ≤ s.phantom.banks[b].timer + 1

/-- An output's return holdoff reaches 0 at the boundary now falling (R146). -/
def returnEnds (o : OutId) (s : State) : Bool :=
  s.outputs[o].failed && available s s.outputs[o].primary && s.outputs[o].holdoff ≤ 1

/-- The sample at the boundary now falling is the 24th in a row that differs from the debounced level (R162). -/
def debounces (k : KeyId) (low : Bool) (s : State) : Bool := s.keys[k].down != low && 24 ≤ s.keys[k].stab + 1

/-- A channel's captured frame taken in ahead of the rest of its boundary. -/
def latchCapture (c : Chan) (f : SampleFrame) (s : State) : State :=
  s.withLatch { s.latch with captured := vset s.latch.captured c f }

/-- A key line's sample taken in ahead of the rest of its boundary. -/
def latchKey (k : KeyId) (low : Bool) (s : State) : State :=
  s.withLatch { s.latch with keyLow := vset s.latch.keyLow k low }

/-- A conversion's code taken in ahead of the rest of its boundary. -/
def latchRail (code : BitVec 10) (s : State) : State := s.withLatch { s.latch with rail := code }

/-- PATH_UP: a path's score that brings its good count to 48 (R5). -/
def execPathUp (p : Port) (x : PathName) (s : State) : Host.Outcome State Fault Refusal :=
  whileRunning s (oneUnit (.score p x) (fun s => goesUp (pathRec s p x)) id)

/-- ACQUIRE_MISS_DARK: a path's twelfth miss in ACQUIRE (R5). -/
def execAcquireMissDark (p : Port) (x : PathName) (s : State) : Host.Outcome State Fault Refusal :=
  whileRunning s (oneUnit (.score p x) (fun s => missesOut (pathRec s p x)) id)

/-- PATH_DARK: a carrying path's twelfth miss (R6). -/
def execPathDark (p : Port) (x : PathName) (s : State) : Host.Outcome State Fault Refusal :=
  whileRunning s (oneUnit (.score p x) (fun s => goesDark (pathRec s p x)) id)

/-- DEGRADE_BLOCK_JUDGED: the score that completes a degrade block (R7). -/
def execDegradeBlockJudged (p : Port) (x : PathName) (s : State) : Host.Outcome State Fault Refusal :=
  whileRunning s (oneUnit (.score p x) (fun s => judgesBlock (pathRec s p x)) id)

/-- RESYNC: the missing playout that brings the empty run to 12 (R20, R21). -/
def execResync (p : Port) (s : State) : Host.Outcome State Fault Refusal :=
  whileRunning s (oneUnit (.playout p) (resyncsNow p) id)

/-- PRESENCE_EXPIRY: the count that reaches the timeout (R55, R57), or that the port's ACK_CALL at this boundary has kept
from it and that still ends the call it acknowledged (R60, R174). -/
def execPresenceExpiry (p : Port) (s : State) : Host.Outcome State Fault Refusal :=
  whileRunning s (oneUnit (.presence p) (fun s => expiresNow s p || callsEnding s p) id)

/-- FORCED_STEP: the captured frame without a crossing that brings the frames waited to 60 (R78). -/
def execForcedStep (c : Chan) (f : SampleFrame) (s : State) : Host.Outcome State Fault Refusal :=
  whileRunning s (oneUnit (.capture c) (forcedNow c f) (latchCapture c f))

/-- MUTE_COUNTER_EXPIRY: the count that brings a mute counter to 0 (R82). -/
def execMuteCounterExpiry (c : Chan) (s : State) : Host.Outcome State Fault Refusal :=
  whileRunning s (oneUnit (.mute c) (fun s => s.channels[c].mute == 1) id)

/-- PHANTOM_READING: the conversion of the bank in turn completes with a code (R111, R114). -/
def execPhantomReading (b : BankId) (code : BitVec 10) (s : State) : Host.Outcome State Fault Refusal :=
  whileRunning s (oneUnit .reading (fun s => s.phantom.scan == b) (latchRail code))

/-- HOLDOFF_END: the count that brings a holdoff timer to 0 (R116). -/
def execHoldoffEnd (b : BankId) (s : State) : Host.Outcome State Fault Refusal :=
  whileRunning s (oneUnit (.bank b) (holdoffEnds b) id)

/-- RETRY_WATCH_END: the count that brings a retry timer to 60000 (R117). -/
def execRetryWatchEnd (b : BankId) (s : State) : Host.Outcome State Fault Refusal :=
  whileRunning s (oneUnit (.bank b) (watchEnds b) id)

/-- OUTPUT_HOLDOFF_END: the count that brings a return holdoff to 0 (R146). -/
def execOutputHoldoffEnd (o : OutId) (s : State) : Host.Outcome State Fault Refusal :=
  whileRunning s (oneUnit (.holdoff o) (returnEnds o) id)

/-- DEBOUNCED_PRESS: the 24th low sample in a row of a key that is UP (R162, R163). -/
def execDebouncedPress (k : KeyId) (s : State) : Host.Outcome State Fault Refusal :=
  whileRunning s (oneUnit (.key k) (debounces k true) (latchKey k true))

/-- DEBOUNCED_RELEASE: the 24th high sample in a row of a key that is DOWN (R162, R163, R171). -/
def execDebouncedRelease (k : KeyId) (s : State) : Host.Outcome State Fault Refusal :=
  whileRunning s (oneUnit (.key k) (debounces k false) (latchKey k false))

/-- STRETCH_TIMER_EXPIRY: the count that brings a stretch timer to 0 (R186). -/
def execStretchTimerExpiry (l : Line) (s : State) : Host.Outcome State Fault Refusal :=
  whileRunning s (oneUnit (.stretch l) (fun s => s.faults.stretch.get l == 1) id)

/-- RESET: RSTN goes high, the straps are read, every block takes its reset state (R38, R138). The transceivers' signal
is not the part's own state, and the commands that wait stay. -/
def execReset (straps : BitVec 2) (s : State) : Host.Outcome State Fault Refusal :=
  .next (((State.reset.withUnitAddr straps).withSignal s.signal).withPending s.pending)

/-- RSTN_LOW: the part stops; no upstream frame is sent, the output modules play zero, and the boundary then falling
does not come (R24, R37, R140). Everything else stands until RESET replaces it (log entry 8), the alarm lines as they
were driven too: no rule gives the lamp outputs a level while RSTN is low (DESIGN CHOICE, log entry 26). -/
def execRstnLow (s : State) : Host.Outcome State Fault Refusal :=
  .next <|
    let s := s.withRstn false
    let s := s.withSent (.of fun _ => { frame := none, on := .of fun _ => false })
    let s := s.withOutputs (Vector.ofFn fun i : OutId => { s.outputs[i] with frame := zeroFrame })
    s.withLatch { s.latch with handoff := .of fun _ => .zero, cameUp := .of fun _ => false, taken := [] }

end Sys2Proof.Machine
end

