-- ==== Sys2Proof/Machine/Dispatch.lean ====
section
/-! DEFINITION. Which meaning each command has: one arm per row of spec/opcode_table.json. -/

namespace Sys2Proof.Machine

def exec (i : Instr) (s : State) : Host.Outcome State Fault Refusal :=
  match i with
  | .reset straps => Sys2Proof.Machine.execReset straps s
  | .frameArrival p x f => Sys2Proof.Machine.execFrameArrival p x f s
  | .lossOfSignal p x => Sys2Proof.Machine.execLossOfSignal p x s
  | .signalReturn p x => Sys2Proof.Machine.execSignalReturn p x s
  | .stageFrameBoundary inp => Sys2Proof.Machine.execStageFrameBoundary inp s
  | .pathUp p x => Sys2Proof.Machine.execPathUp p x s
  | .acquireMissDark p x => Sys2Proof.Machine.execAcquireMissDark p x s
  | .pathDark p x => Sys2Proof.Machine.execPathDark p x s
  | .degradeBlockJudged p x => Sys2Proof.Machine.execDegradeBlockJudged p x s
  | .resync p => Sys2Proof.Machine.execResync p s
  | .unknownKindMessage p kind m => Sys2Proof.Machine.execUnknownKindMessage p kind m s
  | .keepalive p m => Sys2Proof.Machine.execKeepalive p m s
  | .claimChannels p m => Sys2Proof.Machine.execClaimChannels p m s
  | .releaseChannels p m => Sys2Proof.Machine.execReleaseChannels p m s
  | .claimOutputs p m => Sys2Proof.Machine.execClaimOutputs p m s
  | .releaseOutputs p m => Sys2Proof.Machine.execReleaseOutputs p m s
  | .readOwners p m => Sys2Proof.Machine.execReadOwners p m s
  | .setGain p m => Sys2Proof.Machine.execSetGain p m s
  | .setPad p m => Sys2Proof.Machine.execSetPad p m s
  | .setPhantom p m => Sys2Proof.Machine.execSetPhantom p m s
  | .readMeters p m => Sys2Proof.Machine.execReadMeters p m s
  | .setTrim p m => Sys2Proof.Machine.execSetTrim p m s
  | .setTracking p m => Sys2Proof.Machine.execSetTracking p m s
  | .readTracking p m => Sys2Proof.Machine.execReadTracking p m s
  | .phantomReset p m => Sys2Proof.Machine.execPhantomReset p m s
  | .readPhantom p m => Sys2Proof.Machine.execReadPhantom p m s
  | .readChanges p m => Sys2Proof.Machine.execReadChanges p m s
  | .readChannels p m => Sys2Proof.Machine.execReadChannels p m s
  | .writeClockPriority p m => Sys2Proof.Machine.execWriteClockPriority p m s
  | .writePathEnable p m => Sys2Proof.Machine.execWritePathEnable p m s
  | .writePresenceTimeout p q m => Sys2Proof.Machine.execWritePresenceTimeout p q m s
  | .writePresencePolicy p q m => Sys2Proof.Machine.execWritePresencePolicy p q m s
  | .writePhantomTrip p m => Sys2Proof.Machine.execWritePhantomTrip p m s
  | .writeKeyConfig p k m => Sys2Proof.Machine.execWriteKeyConfig p k m s
  | .writeTalkSource p m => Sys2Proof.Machine.execWriteTalkSource p m s
  | .writeStageTalkLevel p m => Sys2Proof.Machine.execWriteStageTalkLevel p m s
  | .writeDuckDepth p m => Sys2Proof.Machine.execWriteDuckDepth p m s
  | .writeAlarmMap p f m => Sys2Proof.Machine.execWriteAlarmMap p f m s
  | .readSettings p m => Sys2Proof.Machine.execReadSettings p m s
  | .readClock p m => Sys2Proof.Machine.execReadClock p m s
  | .setOutput p m => Sys2Proof.Machine.execSetOutput p m s
  | .readOutputs p m => Sys2Proof.Machine.execReadOutputs p m s
  | .talk p m => Sys2Proof.Machine.execTalk p m s
  | .ackCall p m => Sys2Proof.Machine.execAckCall p m s
  | .clearFaults p m => Sys2Proof.Machine.execClearFaults p m s
  | .readFaults p m => Sys2Proof.Machine.execReadFaults p m s
  | .intervalComplete p ticks => Sys2Proof.Machine.execIntervalComplete p ticks s
  | .presenceExpiry p => Sys2Proof.Machine.execPresenceExpiry p s
  | .forcedStep c f => Sys2Proof.Machine.execForcedStep c f s
  | .muteCounterExpiry c => Sys2Proof.Machine.execMuteCounterExpiry c s
  | .phantomReading b code => Sys2Proof.Machine.execPhantomReading b code s
  | .holdoffEnd b => Sys2Proof.Machine.execHoldoffEnd b s
  | .retryWatchEnd b => Sys2Proof.Machine.execRetryWatchEnd b s
  | .outputHoldoffEnd o => Sys2Proof.Machine.execOutputHoldoffEnd o s
  | .debouncedPress k => Sys2Proof.Machine.execDebouncedPress k s
  | .debouncedRelease k => Sys2Proof.Machine.execDebouncedRelease k s
  | .stretchTimerExpiry l => Sys2Proof.Machine.execStretchTimerExpiry l s
  | .rstnLow => Sys2Proof.Machine.execRstnLow s
  | .syncWordMatch p x bits => Sys2Proof.Machine.execSyncWordMatch p x bits s
  | .returnToHunting p x next => Sys2Proof.Machine.execReturnToHunting p x next s
  | .writeSettingBadItem p m => Sys2Proof.Machine.execWriteSettingBadItem p m s

end Sys2Proof.Machine
end

