-- ==== Sys2Proof/WellFormed.lean ====
section
/-! DEFINITION. Which commands the part can be given: what the operand types do not already say. -/
namespace Sys2Proof

/-- The length field has 4 bits, so a message has at most 15 BODY words (chapter 3, "Control words"). -/
def Msg.wf (m : Msg) : Bool := m.body.length ≤ 15

/-- The same for a WRITE_SETTING of a named item. -/
def SettingMsg.wf (m : SettingMsg) : Bool := m.body.length ≤ 15

/-- A frame begins with the sync word 0xC3A55A3C (R1). -/
def Frame.wf (f : Frame) : Bool := f[0] == 0xC3A55A3C#32

/-- The kinds the part knows have the codes 1 to 26 (chapter 12, "Kinds and lengths"). -/
def unknownKind (kind : BitVec 6) : Bool := kind.toNat == 0 || 26 < kind.toNat

/-- A boundary's order names no unit of work twice: each is taken once. -/
def BoundaryInput.wf (i : BoundaryInput) : Bool := decide i.order.Nodup

/-- Every command of the table in the form in which it can reach the part. -/
def Instr.wf : Instr → Bool
  | .frameArrival _ _ f => Frame.wf f
  | .stageFrameBoundary i => i.wf
  | .unknownKindMessage _ kind m => unknownKind kind && m.wf
  | .writeSettingBadItem _ m => 27 < m.arg.toNat && m.wf
  | .keepalive _ m | .claimChannels _ m | .releaseChannels _ m | .claimOutputs _ m | .releaseOutputs _ m
  | .readOwners _ m | .setGain _ m | .setPad _ m | .setPhantom _ m | .readMeters _ m | .setTrim _ m
  | .setTracking _ m | .readTracking _ m | .phantomReset _ m | .readPhantom _ m | .readChanges _ m
  | .readChannels _ m | .readSettings _ m | .readClock _ m | .setOutput _ m | .readOutputs _ m | .talk _ m
  | .ackCall _ m | .clearFaults _ m | .readFaults _ m => m.wf
  | .writeClockPriority _ m | .writePathEnable _ m | .writePhantomTrip _ m | .writeTalkSource _ m
  | .writeStageTalkLevel _ m | .writeDuckDepth _ m => m.wf
  | .writePresenceTimeout _ _ m | .writePresencePolicy _ _ m => m.wf
  | .writeKeyConfig _ _ m => m.wf
  | .writeAlarmMap _ _ m => m.wf
  | .intervalComplete _ _ | .reset _ | .rstnLow | .lossOfSignal _ _ | .signalReturn _ _ | .pathUp _ _
  | .acquireMissDark _ _ | .pathDark _ _ | .degradeBlockJudged _ _ | .resync _ | .presenceExpiry _
  | .forcedStep _ _ | .muteCounterExpiry _ | .phantomReading _ _ | .holdoffEnd _ | .retryWatchEnd _
  | .outputHoldoffEnd _ | .debouncedPress _ | .debouncedRelease _ | .stretchTimerExpiry _
  | .syncWordMatch _ _ _ | .returnToHunting _ _ _ => true

end Sys2Proof
end

