-- ==== Sys2Proof/Safety.lean ====
section
/-! DEFINITION. The terms in which claims are made: what a command leaves as it was, what a desk's message leaves behind
it, when a message is refused, and the rules that every state between two commands keeps. -/
namespace Sys2Proof.Safety

open Sys2Proof.Machine

/-! ## Frames -/

/-- The blocks of the state, one for each field of `State`. -/
inductive Block where
  | rstn | unitAddr | signal | paths | merges | clock | frameNo | lanes | presence | owners | channels | meters | tracks
  | phantom | journal | settings | outputs | keys | calls | talkMask | faults | sent | latch | pending
deriving DecidableEq, Repr

/-- State `t` holds in a block what state `s` holds there. -/
def Block.kept (b : Block) (s t : State) : Prop :=
  match b with
  | .rstn => t.rstn = s.rstn
  | .unitAddr => t.unitAddr = s.unitAddr
  | .signal => t.signal = s.signal
  | .paths => t.paths = s.paths
  | .merges => t.merges = s.merges
  | .clock => t.clock = s.clock
  | .frameNo => t.frameNo = s.frameNo
  | .lanes => t.lanes = s.lanes
  | .presence => t.presence = s.presence
  | .owners => t.owners = s.owners
  | .channels => t.channels = s.channels
  | .meters => t.meters = s.meters
  | .tracks => t.tracks = s.tracks
  | .phantom => t.phantom = s.phantom
  | .journal => t.journal = s.journal
  | .settings => t.settings = s.settings
  | .outputs => t.outputs = s.outputs
  | .keys => t.keys = s.keys
  | .calls => t.calls = s.calls
  | .talkMask => t.talkMask = s.talkMask
  | .faults => t.faults = s.faults
  | .sent => t.sent = s.sent
  | .latch => t.latch = s.latch
  | .pending => t.pending = s.pending

/-- Every block but those listed is as it was. -/
def SameExcept (changed : List Block) (s t : State) : Prop := ∀ b : Block, b ∉ changed → b.kept s t

/-! ## Reports of conditions -/

/-- The kinds whose flag a report of conditions on the way from `s` to `t` may set in a port's copy: those whose condition
`t` has for the port, and those that `s` had without having reported them. Where `s` has reported its conditions, as every
state of a run has, these are the conditions of `t` alone (R180). -/
def reportable (p : Port) (s t : State) : BitVec 12 :=
  conditionsOf t p ||| (conditionsOf s p &&& ~~~ s.faults.active.get p)

/-- Condition kinds have been reported on the way from `s` to `t`, and nothing else has: the conditions stand as `t`
makes them, no flag of a copy was cleared, a flag was set only in the copy of a port for which its condition became
active, and those of the conditions that `t` has and `s` had not were; the stretch timers are as they were, and the lines
are driven as `t` makes them (R180, R185). -/
def OnlyConditionsReported (s t : State) : Prop :=
  (∀ p, t.faults.active.get p = conditionsOf t p
    ∧ s.faults.sticky.get p &&& ~~~ t.faults.sticky.get p = 0
    ∧ t.faults.sticky.get p &&& ~~~ (s.faults.sticky.get p ||| reportable p s t) = 0
    ∧ t.faults.active.get p &&& ~~~ (s.faults.active.get p ||| t.faults.sticky.get p) = 0)
  ∧ t.faults.stretch = s.faults.stretch
  ∧ ∀ l, t.faults.driven.get l = lineDriven t l

/-! ## Events -/

/-- An event of a kind has been reported to the ports in its scope on the way from `s` to `t`: the kind's flag is set in
their copies, no flag was cleared, no other flag set but those of conditions that became active for the copy's port,
the stretch timer of the line the kind is mapped to is 6000, the conditions are as they were or as `t` makes them, and the
lines are driven as `t` makes them (R180, R185, R186). -/
def EventReported (scope : Port → Prop) (k : FaultKind) (s t : State) : Prop :=
  (∀ p, s.faults.sticky.get p &&& ~~~ t.faults.sticky.get p = 0
    ∧ (scope p → t.faults.sticky.get p &&& faultBit k = faultBit k)
    ∧ t.faults.sticky.get p &&& ~~~ (s.faults.sticky.get p ||| reportable p s t ||| faultBit k) = 0
    ∧ (¬ scope p → t.faults.sticky.get p &&& ~~~ (s.faults.sticky.get p ||| reportable p s t) = 0))
  ∧ (t.faults.active = s.faults.active ∨ ∀ p, t.faults.active.get p = conditionsOf t p)
  ∧ (∀ l, t.faults.stretch.get l = if s.settings.alarmMap[faultNo k] = some l then 6000 else s.faults.stretch.get l)
  ∧ ∀ l, t.faults.driven.get l = lineDriven t l

/-! ## Units of a boundary's work -/

/-- RSTN is high and a unit of work has not been taken at the boundary now falling. -/
def NotYetTaken (w : Work) (s : State) : Prop := s.rstn = true ∧ w ∉ s.latch.taken

/-- The clock once the boundary now falling has had its first unit of work: the switches are spent on it (R26). -/
def clockAtWork (s : State) : Clock := if s.latch.taken = [] then { s.clock with switched := false } else s.clock

/-- A unit of work has been marked as taken, and the boundary is otherwise as it was. -/
def Marked (w : Work) (s t : State) : Prop := t.latch = { s.latch with taken := w :: s.latch.taken }

/-! ## Arrivals and paths -/

/-- One bit taken into the check register: shifted left by one, and combined with 0x1021 where the bit differs from the
one shifted out (R2). -/
def checkStep (r : BitVec 16) (b : Bool) : BitVec 16 := if r.msb ≠ b then (r <<< 1) ^^^ 0x1021 else r <<< 1

/-- The check over words in frame order, the bits of each most significant first, from the preset 0xFFFF (R2). -/
def checkOver (ws : List Word) : BitVec 16 :=
  (ws.flatMap fun w => (List.finRange 32).map fun i => w.getLsbD (31 - i.val)).foldl checkStep 0xFFFF

/-- A frame can arrive at a path: RSTN is high, the frame begins with the sync word, the path is not DISABLED and its
transceiver has signal (R1). -/
def Arrives (p : Port) (x : PathName) (f : Frame) (s : State) : Prop :=
  s.rstn = true ∧ Frame.wf f = true ∧ ((s.paths.get p).get x).state ≠ .disabled ∧ (s.signal.get p).get x = true

/-- The paths with one receiver replaced. -/
def pathsWith (p : Port) (x : PathName) (r : PathRec) (s : State) : PerPort (PerPath PathRec) :=
  s.paths.set p ((s.paths.get p).set x r)

/-- The clock after an arrival at a path: an interval that waited on it as reference path has begun (R25, R27). -/
def clockAtArrival (p : Port) (x : PathName) (s : State) : Clock :=
  let m := s.clock.monitors.get p
  if m.ref = some x ∧ m.interval = .awaiting then
    { s.clock with monitors := s.clock.monitors.set p { m with interval := .running } }
  else s.clock

/-- A carrying path's receiver after the arrival of a copy (R3). -/
def arrivedAt (c : Copy) (r : PathRec) : PathRec :=
  { r with
    rx := .nextWord, arrived := true, good := r.good || c.good, suspect := r.suspect || !c.good
    suspectCount := if c.good then r.suspectCount else min 255 (r.suspectCount + 1) }

/-- A copy has been passed to the merge from a carrying path: the receiver has recorded it, and beside the port's merge
and the reports nothing else has changed (R3). -/
def PassedOn (p : Port) (x : PathName) (c : Copy) (s t : State) : Prop :=
  t.paths = pathsWith p x (arrivedAt c ((s.paths.get p).get x)) s
  ∧ t.clock = clockAtArrival p x s
  ∧ (∀ q, q ≠ p → t.merges.get q = s.merges.get q)
  ∧ SameExcept [.paths, .clock, .merges, .faults] s t

/-- A path in UP or DEGRADED carries its port. -/
def Carrying (p : Port) (x : PathName) (s : State) : Prop :=
  ((s.paths.get p).get x).state = .up ∨ ((s.paths.get p).get x).state = .degraded

/-- A receiver that keeps only its place in the stream, in a given state (R5, R6, R9). -/
def bareReceiver (state : PathState) (rx : RxPhase) : PathRec :=
  { state := state, rx := rx, arrived := false, good := false, suspect := false, goodCount := 0, missRun := 0,
    blockCount := 0, suspectCount := 0, acq := none }

/-- A window re-centred on a copy (R11, R21). -/
def recentredOn (c : Copy) (m : Merge) : Merge :=
  { m with slots := #v[none, none, some c, none], playNo := c.frameNo - 2, hunting := false, emptyRun := 0 }

/-- The OFFLINE form of a merge (R12). -/
def offlineForm (m : Merge) : Merge :=
  { m with
    slots := #v[none, none, none, none], hunting := false, emptyRun := 0, heldRet := Vector.replicate 16 0
    heldTalk := 0, missRun := 4, mask := 0, talkValid := false }

/-- The first port of a list whose clock is GOOD, or LOCAL (R32). -/
def firstGood (order : List Port) (k : Clock) : Option Port :=
  order.find? fun p => (k.monitors.get p).state == .good

/-- n / d rounded to the nearest integer, a half going away from zero (chapter 0, "Rounding"). -/
def roundHalfAway (n d : Int) : Int := if 0 ≤ n then (2 * n + d) / (2 * d) else -((-2 * n + d) / (2 * d))

/-- A sample brought into the 24-bit range (chapter 0, "Saturation and clamping"). -/
def saturated (n : Int) : Int := if n < -8388608 then -8388608 else if 8388607 < n then 8388607 else n

/-- Sample i (1 to 8) of concealment at missing run k over a held sample (R20). -/
def concealedSample (k : Nat) (h : Int) (i : Nat) : Int :=
  if k = 1 ∨ k = 2 then h else if k = 3 then roundHalfAway (h * (8 - i)) 8 else 0

/-! ## Messages -/

/-- A desk's message can complete and be answered: RSTN is high, its port is ONLINE and has room in its reply queue
(R44, R45). -/
def Ready (p : Port) (s : State) : Prop := s.rstn = true ∧ online s p = true ∧ (s.lanes.get p).queue.length < 8

/-- The port has been heard: it is PRESENT and its timer runs from 0 (R55, R56). -/
def Heard (p : Port) (s t : State) : Prop :=
  t.presence = s.presence.set p { present := true, running := true, elapsed := 0 }

/-- The timeout, in frames, that a port's count at the boundary now falling compares with: of the code in force, or of
the one that a write at this boundary has replaced (R61). -/
def timeoutCounted (p : Port) (s : State) : Nat :=
  match ((s.presence.get p).held.getD (s.settings.timeout.get p)).toNat with
  | 0 => 1500 | 1 => 3000 | 2 => 6000 | _ => 12000

/-- A running timer's count at the boundary now falling reaches its timeout (R55). -/
abbrev TimesOut (p : Port) (s : State) : Prop :=
  (s.presence.get p).running = true ∧ timeoutCounted p s ≤ (s.presence.get p).elapsed + 1

/-- One reply has been appended to the port's queue, and no lane is otherwise changed (R45, R49); that a message in
progress stays is the model's choice (log entry 23). -/
def Replied (p : Port) (r : Reply) (s t : State) : Prop :=
  t.lanes = s.lanes.set p { s.lanes.get p with queue := (s.lanes.get p).queue ++ [r] }

/-- A message was answered: the port has been heard, the reply is queued, and apart from the blocks listed everything
but presence, the lanes and the faults is as it was. -/
def Answered (p : Port) (r : Reply) (changed : List Block) (s t : State) : Prop :=
  Heard p s t ∧ Replied p r s t ∧ SameExcept (.presence :: .lanes :: .faults :: changed) s t

/-- The faults are as the port's being heard leaves them: the message's own effect reported nothing. -/
def FaultsAsHeard (p : Port) (s t : State) : Prop := t.faults = (heard p s).faults

/-- What an entry says: its kind, subject, author and value. -/
structure News where
  kind    : EntryKind
  subject : Nat
  author  : Option Port
  value   : BitVec 16

/-- The journal after entries have been appended one after another: each takes the next generation, and the last 32 of
all are held (R125, R127). -/
def journalWith (news : List News) (j : Journal) : Journal :=
  let all := j.entries ++ news.mapIdx fun i n =>
    { gen := j.gen + BitVec.ofNat 32 (i + 1), kind := n.kind, subject := BitVec.ofNat 8 n.subject, author := n.author
      value := n.value }
  { gen := j.gen + BitVec.ofNat 32 news.length
    entries := if news = [] then j.entries else all.drop (all.length - 32) }

/-! ## Words (chapter 12), the highest bits first -/

/-- A 48-channel mask: channels 0 to 23 at bits 0 to 23 of the first word, 24 to 47 in the second. -/
def IsChanMask (f : Chan → Prop) (ws : List Payload) : Prop :=
  ∃ a b, ws = [a, b] ∧ a.toNat < 2 ^ 24 ∧ b.toNat < 2 ^ 24 ∧ ∀ c : Chan,
    (if c.val < 24 then a.getLsbD c.val else b.getLsbD (c.val - 24)) = true ↔ f c

/-- A 16-output mask at bits 15 to 0 of one word. -/
def IsOutMask (f : OutId → Prop) (ws : List Payload) : Prop :=
  ∃ a, ws = [a] ∧ a.toNat < 2 ^ 16 ∧ ∀ o : OutId, a.getLsbD o.val = true ↔ f o

/-- The step word. -/
def stepBits (st : Step) : Payload :=
  0#15 ++ BitVec.ofNat 6 st.waited ++ BitVec.ofBool st.pad ++ BitVec.ofNat 8 st.gain.toNat

/-- The phantom word. -/
def phantomBits (ch : Channel) : Payload :=
  0#15 ++ BitVec.ofNat 11 ch.mute ++ BitVec.ofNat 3 (phantomNo ch.phantom) ++ BitVec.ofBool ch.request

/-- The meter word of a port's record of a channel. -/
def meterBits (s : State) (p : Port) (c : Chan) : Payload :=
  let m := (s.meters.get p)[c]
  0#10 ++ BitVec.ofBool (decide (0 < s.channels[c].mute)) ++ BitVec.ofBool (s.tracks.get p)[c].limited
    ++ BitVec.ofBool m.sendClip ++ BitVec.ofBool m.clip ++ BitVec.ofNat 16 (m.peak / 256)

/-- The tracking word. -/
def trackBits (t : Track) : Payload :=
  0#3 ++ BitVec.ofBool t.limited ++ BitVec.ofBool t.tracking ++ BitVec.ofInt 8 t.gain ++ BitVec.ofInt 9 t.anchor
    ++ BitVec.ofInt 8 t.trim

/-- The bank word. -/
def bankBits (k : Bank) : Payload :=
  BitVec.ofNat 16 k.timer ++ BitVec.ofNat 10 k.last ++ BitVec.ofNat 2 k.trips ++ BitVec.ofNat 2 (bankNo k.state)

/-- The channel word of READ_CHANNELS. -/
def channelBits (s : State) (c : Chan) : Payload :=
  let ch := s.channels[c]
  0#15 ++ BitVec.ofNat 2 (partyCode s.owners.chan[c]) ++ BitVec.ofNat 3 (phantomNo ch.phantom)
    ++ BitVec.ofBool ch.request ++ BitVec.ofBool ch.pad ++ BitVec.ofNat 8 ch.gain.toNat

/-- The word that holds the low 16 bits of a generation. -/
def generationBits (gen : BitVec 32) : Payload := 0#14 ++ gen.setWidth 16

/-- The three words of READ_OUTPUTS for an output. -/
def outputBits (s : State) (i : OutId) : List Payload :=
  let o := s.outputs[i]
  [0#9 ++ BitVec.ofBool (available s o.backup) ++ BitVec.ofBool (available s o.primary) ++ BitVec.ofBool o.failed
      ++ BitVec.ofNat 2 (selectionNo o.sel) ++ outputSetting o,
   0#3 ++ BitVec.ofNat 9 o.duck ++ BitVec.ofNat 9 o.wb ++ BitVec.ofNat 9 o.wp,
   0#15 ++ BitVec.ofBool ((s.talkMask.p0 ||| s.talkMask.p1 ||| s.talkMask.p2).getLsbD i.val) ++ BitVec.ofNat 14 o.holdoff]

/-- The two words of a WRITE_SETTING reply, `j` the journal before the write. -/
def settingReply (item : Nat) (stored : BitVec 16) (j : Journal) : List Payload :=
  [0#9 ++ BitVec.ofNat 5 item ++ stored, generationBits (j.gen + 1)]

/-- The value of a GAIN entry. -/
def gainNews (gain : Int) (pad : Bool) : BitVec 16 := 0#7 ++ BitVec.ofBool pad ++ BitVec.ofNat 8 gain.toNat

/-- The value of a PHANTOM entry. -/
def phantomNews (state : PhState) (request : Bool) : BitVec 16 :=
  0#12 ++ BitVec.ofNat 3 (phantomNo state) ++ BitVec.ofBool request

/-- The value of a BANK entry. -/
def bankNews (k : Bank) : BitVec 16 :=
  0#2 ++ BitVec.ofNat 10 k.last ++ BitVec.ofNat 2 k.trips ++ BitVec.ofNat 2 (bankNo k.state)

/-- The setting a channel's module has been sent (R72). -/
def sentSetting (gain : Int) (pad : Bool) (state : PhState) : ModuleSetting :=
  { gain := gain, pad := pad, feed := state == .rampUp || state == .on }

/-- A channel after its bank's shed (R84). -/
def shedChannel (ch : Channel) : Channel :=
  let state := if ch.request then .shed else .off
  { ch with phantom := state, mute := 1800, sent := sentSetting ch.gain ch.pad state }

/-- A channel after its bank's retry (R85). -/
def retriedChannel (ch : Channel) : Channel :=
  if ch.phantom = .shed then
    { ch with phantom := .rampUp, mute := 1800, sent := sentSetting ch.gain ch.pad .rampUp }
  else ch

/-- The channels of a bank that satisfy a test, in ascending index. -/
def bankWhere (b : BankId) (f : Chan → Bool) : List Chan :=
  (List.finRange 48).filter fun c => c.val / 8 == b.val && f c

/-- The entries of a shed: the bank's, then those of its channels that come into SHED or OFF from another state (R87,
R118). -/
def shedNews (b : BankId) (k : Bank) (s : State) : List News :=
  ⟨.bank, b.val, none, bankNews k⟩ ::
    (bankWhere b fun c => (shedChannel s.channels[c]).phantom != s.channels[c].phantom).map fun c =>
      ⟨.phantom, c.val, none, phantomNews (shedChannel s.channels[c]).phantom s.channels[c].request⟩

/-- The entries of a retry: the bank's, then those of its channels that leave SHED (R87, R118). -/
def retryNews (author : Option Port) (b : BankId) (k : Bank) (s : State) : List News :=
  ⟨.bank, b.val, author, bankNews k⟩ ::
    (bankWhere b fun c => s.channels[c].phantom == .shed).map fun c =>
      ⟨.phantom, c.val, none, phantomNews .rampUp s.channels[c].request⟩

/-- A record with D and the limited flag as T, A and E make them (R93). -/
def withGain (E : Int) (t : Track) : Track :=
  let raw := t.trim + t.anchor - E
  { t with gain := max (-60) (min raw 36), limited := decide (raw < -60 ∨ 36 < raw) }

/-- Two samples with opposite signs, one negative and the other above zero (R77). -/
def OppositeSigns (a b : Sample) : Prop := (a.toInt < 0 ∧ 0 < b.toInt) ∨ (0 < a.toInt ∧ b.toInt < 0)

/-- A captured frame has a crossing, counting the last captured sample before it (R77). -/
def HasCrossing (last : Sample) (f : SampleFrame) : Prop :=
  (∃ i : Fin 8, f[i] = 0) ∨ OppositeSigns last f[0] ∨ ∃ i : Fin 7, OppositeSigns f[i.val] f[i.val + 1]

/-- What a captured frame of a channel does (R73, R78, R79, R88, R95). Without a pending step only the last captured
sample changes; a step without a crossing and with fewer than 60 frames waited waits one frame more; any other step is
applied: one whose target is the present setting vanishes, and another changes G, the pad and E, is sent, moves the
three anchors by the anchor rule and makes a GAIN entry by the owner or STAGE. The meters take the frame in. -/
def CapturedFrameTaken (c : Chan) (f : SampleFrame) (s t : State) : Prop :=
  let ch := s.channels[c]
  let nothingElse := t.tracks = s.tracks ∧ t.journal = s.journal ∧ t.faults = s.faults
  (ch.pending = none → t.channels = vset s.channels c { ch with last := f[7] } ∧ nothingElse)
  ∧ (∀ st, ch.pending = some st → ¬ HasCrossing ch.last f → st.waited < 59 →
      t.channels = vset s.channels c { ch with last := f[7], pending := some { st with waited := st.waited + 1 } }
      ∧ nothingElse)
  ∧ (∀ st, ch.pending = some st → HasCrossing ch.last f ∨ 59 ≤ st.waited → st.gain = ch.gain ∧ st.pad = ch.pad →
      t.channels = vset s.channels c { ch with pending := none, last := f[7] } ∧ nothingElse)
  ∧ (∀ st, ch.pending = some st → HasCrossing ch.last f ∨ 59 ≤ st.waited → ¬ (st.gain = ch.gain ∧ st.pad = ch.pad) →
      let eff := if st.pad then st.gain - 40 else st.gain
      t.channels = vset s.channels c
        { ch with gain := st.gain, pad := st.pad, eff := eff, pending := none, last := f[7]
                  sent := sentSetting st.gain st.pad ch.phantom }
      ∧ (∀ p (d : Chan), d ≠ c → (t.tracks.get p)[d] = (s.tracks.get p)[d])
      ∧ (∀ p, (t.tracks.get p)[c] =
          let r := (s.tracks.get p)[c]
          withGain eff (if s.owners.chan[c] = some p ∨ r.tracking = false then { r with anchor := eff } else r))
      ∧ t.journal = journalWith [⟨.gain, c.val, s.owners.chan[c], gainNews st.gain st.pad⟩] s.journal
      ∧ OnlyConditionsReported s t)
  ∧ (∀ p (d : Chan), d ≠ c → (t.meters.get p)[d] = (s.meters.get p)[d])
  ∧ ∀ p, (t.meters.get p)[c] =
      let r := (s.meters.get p)[c]
      { r with
        peak := f.toList.foldl (fun k x => max k x.toInt.natAbs) r.peak
        clip := r.clip || f.toList.any fun x => x == BitVec.intMin 24 || x == BitVec.intMax 24 }

/-- Sample j of a channel's captured frame as it is handed on after the phantom mute (R73, R83). -/
def heardSample (s : State) (c : Chan) (j : Fin 8) : Sample :=
  if 0 < s.channels[c].mute then 0 else (s.latch.captured[c])[j]

/-- A weight after k sample periods in which it rises to 480, or falls to 0 (R153, R154). -/
def weightAfter (rises : Bool) (w k : Nat) : Nat := if rises then max w (min 480 (w + k)) else w - k

/-! ## A boundary -/

/-- The work of a boundary in the order its command gives: the units it names, then the others (log entry 4). -/
def workOf (i : BoundaryInput) : List Work := i.order ++ Work.all

/-- The state after units of work have been taken, from the boundary's inputs on; a unit already taken is passed over. -/
def afterWork (i : BoundaryInput) (ws : List Work) (s : State) : State :=
  ws.foldl takeWork (latchInputs i (openBoundary s))

/-- The trip level in force (R112). -/
def tripLevelInForce (s : State) : Nat :=
  match s.settings.trip.toNat with
  | 0 => 736 | 1 => 704 | 2 => 672 | _ => 640

/-! ## Refusals (R46): the tests of each kind in their order, the first that fails giving the code -/

/-- BODY word i of a message as a number. -/
def word (m : Msg) (i : Nat) : Nat := (m.body[i]?.getD 0).toNat

/-- The test of a kind with a length alone (R36, R68, R69, R71, R123, R137, R175, R182, R184). -/
def refuseLength (want : Nat) (m : Msg) : Option Code := if m.body.length = want then none else some .badLength

/-- The tests of a range of channels or outputs: first at most `top`, count 1 to `most`, the end within range (R65, R67,
R132, R160). -/
def refuseRange (top most : Nat) (m : Msg) : Option Code :=
  if m.body.length ≠ 1 then some .badLength
  else if top < m.arg.toNat ∨ word m 0 % 64 = 0 ∨ most < word m 0 % 64 ∨ top + 1 < m.arg.toNat + word m 0 % 64 then
    some .badIndex
  else none

/-- SET_TRACKING and READ_TRACKING have a range and then a value in bits 9 and 8 (R99, R101). -/
def refuseSide (most top : Nat) (m : Msg) : Option Code :=
  match refuseRange 47 most m with
  | some code => some code
  | none => if top < word m 0 / 256 % 4 then some .badValue else none

/-- A length of 1, a channel, a value 0 or 1 where `binary`, and the channel's owner where `owned` (R74, R75, R81,
R98). -/
def refuseChannel (binary owned : Bool) (p : Port) (m : Msg) (s : State) : Option Code :=
  if m.body.length ≠ 1 then some .badLength
  else if h : m.arg.toNat < 48 then
    if binary ∧ 1 < word m 0 % 65536 then some .badValue
    else if owned ∧ s.owners.chan[m.arg.toNat] ≠ some p then some .notOwner
    else none
  else some .badIndex

/-- The tests of SET_OUTPUT (R148). -/
def refuseOutput (p : Port) (m : Msg) (s : State) : Option Code :=
  let v := word m 0
  if m.body.length ≠ 1 then some .badLength
  else if h : m.arg.toNat < 16 then
    if (v % 2 = 1 ∧ v / 2 % 4 = 3) ∨ (v / 128 % 2 = 1 ∧ v / 256 % 4 = 3) ∨ v / 16384 % 4 = 3 then some .badValue
    else if s.owners.out[m.arg.toNat] ≠ some p then some .notOwner
    else none
  else some .badIndex

/-- The tests of PHANTOM_RESET (R119). -/
def refusePhantomReset (p : Port) (m : Msg) (s : State) : Option Code :=
  if m.body.length ≠ 0 then some .badLength
  else if 5 < m.arg.toNat then some .badIndex
  else if ∀ c : Chan, c.val / 8 = m.arg.toNat → s.owners.chan[c] ≠ some p then some .notOwner
  else none

/-- The generation a READ_CHANGES names. -/
def generationNamed (m : Msg) : Nat := word m 1 % 65536 * 65536 + word m 0 % 65536

/-- The tests of READ_CHANGES (R129). -/
def refuseChanges (m : Msg) (s : State) : Option Code :=
  let ahead := (generationNamed m + 4294967296 - s.journal.gen.toNat) % 4294967296
  if m.body.length ≠ 2 then some .badLength
  else if 1 ≤ ahead ∧ ahead ≤ 2147483648 then some .badValue
  else none

/-- The entries of a written CLOCK_PRIORITY within its length. -/
def priorityEntries (v : Nat) : List Nat :=
  match v % 8 with
  | 0 => [] | 1 => [v / 8 % 4] | 2 => [v / 8 % 4, v / 32 % 4] | _ => [v / 8 % 4, v / 32 % 4, v / 128 % 4]

/-- The tests of WRITE_SETTING for a named item, `v` its written value (R134). -/
def refuseItem (i : Item) (m : SettingMsg) : Option Code :=
  let v := (m.body[0]?.getD 0).toNat % 65536
  if m.body.length ≠ 1 then some .badLength
  else match i with
    | .talkSource => if 47 < v then some .badIndex else none
    | .clockPriority =>
      if 3 < v % 8 ∨ 3 ∈ priorityEntries v ∨ ¬ (priorityEntries v).Nodup then some .badValue else none
    | .timeout _ | .trip => if 3 < v then some .badValue else none
    | .policy _ => if 1 < v then some .badValue else none
    | .alarm _ => if 2 < v then some .badValue else none
    | .pathEnable | .key _ | .talkLevel | .duckDepth => none

/-- What a message row names: its port, its kind's code, its tag and the code of its refusal, if it is refused; none for
a row that is no message with a reply. -/
def refusalOf (s : State) : Instr → Option (Port × BitVec 6 × BitVec 8 × Option Code)
  | .unknownKindMessage p kind m => some (p, kind, m.tag, some .unknown)
  | .claimChannels p m => some (p, 2, m.tag, refuseRange 47 48 m)
  | .releaseChannels p m => some (p, 3, m.tag, refuseRange 47 48 m)
  | .claimOutputs p m => some (p, 4, m.tag, refuseLength 1 m)
  | .releaseOutputs p m => some (p, 5, m.tag, refuseLength 1 m)
  | .readOwners p m => some (p, 6, m.tag, refuseLength 0 m)
  | .setGain p m => some (p, 7, m.tag, refuseChannel false true p m s)
  | .setPad p m => some (p, 8, m.tag, refuseChannel true true p m s)
  | .setPhantom p m => some (p, 9, m.tag, refuseChannel true true p m s)
  | .readMeters p m =>
    some (p, 10, m.tag,
      if m.body.length ≠ 0 then some .badLength else if 5 < m.arg.toNat then some .badIndex else none)
  | .setTrim p m => some (p, 11, m.tag, refuseChannel false false p m s)
  | .setTracking p m => some (p, 12, m.tag, refuseSide 48 1 m)
  | .readTracking p m => some (p, 13, m.tag, refuseSide 15 2 m)
  | .phantomReset p m => some (p, 14, m.tag, refusePhantomReset p m s)
  | .readPhantom p m => some (p, 15, m.tag, refuseLength 0 m)
  | .readChanges p m => some (p, 16, m.tag, refuseChanges m s)
  | .readChannels p m => some (p, 17, m.tag, refuseRange 47 14 m)
  | .writeClockPriority p m => some (p, 18, m.tag, refuseItem .clockPriority m)
  | .writePathEnable p m => some (p, 18, m.tag, refuseItem .pathEnable m)
  | .writePresenceTimeout p q m => some (p, 18, m.tag, refuseItem (.timeout q) m)
  | .writePresencePolicy p q m => some (p, 18, m.tag, refuseItem (.policy q) m)
  | .writePhantomTrip p m => some (p, 18, m.tag, refuseItem .trip m)
  | .writeKeyConfig p k m => some (p, 18, m.tag, refuseItem (.key k) m)
  | .writeTalkSource p m => some (p, 18, m.tag, refuseItem .talkSource m)
  | .writeStageTalkLevel p m => some (p, 18, m.tag, refuseItem .talkLevel m)
  | .writeDuckDepth p m => some (p, 18, m.tag, refuseItem .duckDepth m)
  | .writeAlarmMap p f m => some (p, 18, m.tag, refuseItem (.alarm f) m)
  | .writeSettingBadItem p m =>
    some (p, 18, m.tag, if m.body.length ≠ 1 then some .badLength else some .badIndex)
  | .readSettings p m => some (p, 19, m.tag, refuseLength 0 m)
  | .readClock p m => some (p, 20, m.tag, refuseLength 0 m)
  | .setOutput p m => some (p, 21, m.tag, refuseOutput p m s)
  | .readOutputs p m => some (p, 22, m.tag, refuseRange 15 5 m)
  | .talk p m => some (p, 23, m.tag, refuseLength 1 m)
  | .ackCall p m =>
    some (p, 24, m.tag,
      if m.body.length ≠ 0 then some .badLength else if 3 < m.arg.toNat then some .badIndex else none)
  | .clearFaults p m => some (p, 25, m.tag, refuseLength 1 m)
  | .readFaults p m => some (p, 26, m.tag, refuseLength 0 m)
  | .keepalive .. | .reset .. | .frameArrival .. | .lossOfSignal .. | .signalReturn .. | .stageFrameBoundary ..
  | .pathUp .. | .acquireMissDark .. | .pathDark .. | .degradeBlockJudged .. | .resync .. | .intervalComplete ..
  | .presenceExpiry .. | .forcedStep .. | .muteCounterExpiry .. | .phantomReading .. | .holdoffEnd ..
  | .retryWatchEnd .. | .outputHoldoffEnd .. | .debouncedPress .. | .debouncedRelease .. | .stretchTimerExpiry ..
  | .rstnLow | .syncWordMatch .. | .returnToHunting .. => none

/-- The port, the kind and the message of a message row as the control lane carries them; a WRITE_SETTING row that names
its item has the item in the argument (chapter 12, "Kinds and lengths"). None for a row that is no message. -/
def messageOf : Instr → Option (Port × BitVec 6 × Msg)
  | .unknownKindMessage p kind m => some (p, kind, m)
  | .keepalive p m => some (p, 1, m)
  | .claimChannels p m => some (p, 2, m)
  | .releaseChannels p m => some (p, 3, m)
  | .claimOutputs p m => some (p, 4, m)
  | .releaseOutputs p m => some (p, 5, m)
  | .readOwners p m => some (p, 6, m)
  | .setGain p m => some (p, 7, m)
  | .setPad p m => some (p, 8, m)
  | .setPhantom p m => some (p, 9, m)
  | .readMeters p m => some (p, 10, m)
  | .setTrim p m => some (p, 11, m)
  | .setTracking p m => some (p, 12, m)
  | .readTracking p m => some (p, 13, m)
  | .phantomReset p m => some (p, 14, m)
  | .readPhantom p m => some (p, 15, m)
  | .readChanges p m => some (p, 16, m)
  | .readChannels p m => some (p, 17, m)
  | .writeClockPriority p m => some (p, 18, ⟨m.tag, 0, m.body⟩)
  | .writePathEnable p m => some (p, 18, ⟨m.tag, 1, m.body⟩)
  | .writePresenceTimeout p q m => some (p, 18, ⟨m.tag, BitVec.ofNat 9 (2 + portNo q), m.body⟩)
  | .writePresencePolicy p q m => some (p, 18, ⟨m.tag, BitVec.ofNat 9 (5 + portNo q), m.body⟩)
  | .writePhantomTrip p m => some (p, 18, ⟨m.tag, 8, m.body⟩)
  | .writeKeyConfig p k m => some (p, 18, ⟨m.tag, BitVec.ofNat 9 (9 + k.val), m.body⟩)
  | .writeTalkSource p m => some (p, 18, ⟨m.tag, 13, m.body⟩)
  | .writeStageTalkLevel p m => some (p, 18, ⟨m.tag, 14, m.body⟩)
  | .writeDuckDepth p m => some (p, 18, ⟨m.tag, 15, m.body⟩)
  | .writeAlarmMap p f m => some (p, 18, ⟨m.tag, BitVec.ofNat 9 (16 + (faultNo f).val), m.body⟩)
  | .writeSettingBadItem p m => some (p, 18, m)
  | .readSettings p m => some (p, 19, m)
  | .readClock p m => some (p, 20, m)
  | .setOutput p m => some (p, 21, m)
  | .readOutputs p m => some (p, 22, m)
  | .talk p m => some (p, 23, m)
  | .ackCall p m => some (p, 24, m)
  | .clearFaults p m => some (p, 25, m)
  | .readFaults p m => some (p, 26, m)
  | .reset .. | .frameArrival .. | .lossOfSignal .. | .signalReturn .. | .stageFrameBoundary ..
  | .pathUp .. | .acquireMissDark .. | .pathDark .. | .degradeBlockJudged .. | .resync .. | .intervalComplete ..
  | .presenceExpiry .. | .forcedStep .. | .muteCounterExpiry .. | .phantomReading .. | .holdoffEnd ..
  | .retryWatchEnd .. | .outputHoldoffEnd .. | .debouncedPress .. | .debouncedRelease .. | .stretchTimerExpiry ..
  | .rstnLow | .syncWordMatch .. | .returnToHunting .. => none

/-! ## Rules that every state keeps -/

/-- The journal: at most 32 entries, consecutive generations, the newest carrying the current one (R127). -/
def JournalOk (s : State) : Prop :=
  s.journal.entries.length ≤ 32 ∧
  ∀ i (h : i < s.journal.entries.length),
    (s.journal.entries[i]).gen + BitVec.ofNat 32 (s.journal.entries.length - 1 - i) = s.journal.gen

/-- The weights of every output (R153, R154). -/
def WeightsOk (s : State) : Prop :=
  ∀ i : OutId, s.outputs[i].wp + s.outputs[i].wb ≤ 480 ∧ s.outputs[i].duck ≤ 480

/-- The lanes: at most 8 replies, none and no message in progress while OFFLINE, a sent count within the head's words
(R44, R49). -/
def LanesOk (s : State) : Prop :=
  ∀ p, (s.lanes.get p).queue.length ≤ 8
    ∧ (online s p = false → (s.lanes.get p).queue = [] ∧ (s.lanes.get p).asm = none)
    ∧ match (s.lanes.get p).queue with
      | [] => (s.lanes.get p).sent = 0
      | r :: _ => (s.lanes.get p).sent < 1 + r.body.length

/-- The tracking table: D is T + A − E brought into −60 to +36, the limited flag tells whether that changed it, and the
anchor is E for the owner and where tracking is OFF (R93, R95). -/
def TracksOk (s : State) : Prop :=
  ∀ p (c : Chan),
    let t := (s.tracks.get p)[c]
    let raw := t.trim + t.anchor - s.channels[c].eff
    t.gain = max (-60) (min raw 36) ∧ (t.limited = true ↔ raw < -60 ∨ 36 < raw)
      ∧ (s.owners.chan[c] = some p ∨ t.tracking = false → t.anchor = s.channels[c].eff)

/-- Phantom power: a feed is on only while the request is ON and the bank NORMAL or RETRY; a channel that waits in SHED
has its request ON; the channels of a bank in HOLDOFF or LOCKED_OUT are OFF or SHED (R81, R115, R118). -/
def PhantomOk (s : State) : Prop :=
  ∀ c : Chan,
    let ch := s.channels[c]
    let bank := s.phantom.banks[bankOf c].state
    (ch.phantom = .rampUp ∨ ch.phantom = .on →
      ch.request = true ∧ (bank = .normal ∨ bank = .retry))
    ∧ (ch.phantom = .shed → ch.request = true)
    ∧ (bank = .holdoff ∨ bank = .lockedOut → ch.phantom = .off ∨ ch.phantom = .shed)

/-- The head amplifiers: G is even and from 10 to 130, E follows G and the pad, the module has been sent the present
setting, a pending step has a legal target and has waited fewer than 60 frames, and a ramp's mute counter is above 0
until the ramp ends (R72, R74, R78, R82). -/
def HeadAmpsOk (s : State) : Prop :=
  ∀ c : Chan,
    let ch := s.channels[c]
    (10 ≤ ch.gain ∧ ch.gain ≤ 130 ∧ ch.gain % 2 = 0)
    ∧ ch.eff = (if ch.pad then ch.gain - 40 else ch.gain)
    ∧ ch.sent = { gain := ch.gain, pad := ch.pad, feed := ch.phantom == .rampUp || ch.phantom == .on }
    ∧ (∀ st, ch.pending = some st → 10 ≤ st.gain ∧ st.gain ≤ 130 ∧ st.gain % 2 = 0 ∧ st.waited < 60)
    ∧ ch.mute ≤ 1800
    ∧ (ch.phantom = .rampUp ∨ ch.phantom = .rampDown → 0 < ch.mute)
    ∧ (ch.phantom = .on → ch.mute = 0)

/-- The fault block: every condition stands as the state makes it, every copy holds the kinds whose condition is active
for its port, and the lines are driven as the state makes them (R181, R185). -/
def FaultsOk (s : State) : Prop :=
  (∀ p, s.faults.active.get p = conditionsOf s p ∧ s.faults.active.get p &&& ~~~ s.faults.sticky.get p = 0)
  ∧ ∀ l, s.faults.driven.get l = lineDriven s l

/-- The call table: a key is DISABLED just while its configuration does not enable it, and a call is pending only at a
PRESENT port in the mask of an enabled key; a mark stands only on a pending call, and only a marked one is ending (R165,
R170, R174). -/
def CallsOk (s : State) : Prop :=
  ∀ k : KeyId,
    (s.keys[k].state = .disabled ↔ s.settings.keys[k].enabled = false)
    ∧ ∀ p,
      ((s.calls.get p)[k].pending = true →
        s.settings.keys[k].enabled = true ∧ s.settings.keys[k].ports.get p = true ∧ (s.presence.get p).present = true)
      ∧ ((s.calls.get p)[k].acked = true → (s.calls.get p)[k].pending = true)
      ∧ ((s.calls.get p)[k].ending = true → (s.calls.get p)[k].acked = true)

/-- The stage clock: the source is the first listed port that is GOOD, or LOCAL; a port is UNUSABLE just while it is
OFFLINE (R30, R32). -/
def ClockOk (s : State) : Prop :=
  s.clock.source = s.settings.clockPriority.find? (fun p => (s.clock.monitors.get p).state == .good)
  ∧ ∀ p, (s.clock.monitors.get p).state = .unusable ↔ online s p = false

/-- The merge windows: a slot holds only the frame at its own distance from P, and a window that hunts or whose port is
OFFLINE is empty (R13, R21). -/
def WindowsOk (s : State) : Prop :=
  ∀ p,
    let m := s.merges.get p
    (∀ (d : Fin 4) (c : Copy), m.slots[d] = some c → c.frameNo = m.playNo + BitVec.ofNat 12 d.val)
    ∧ (m.hunting = true ∨ online s p = false → ∀ d : Fin 4, m.slots[d] = none)

/-- The output records: without a primary an output is SILENT with its flag clear; with one, it is on PRIMARY just
while its flag is clear, and on BACKUP only by that action; HOLD never sets the flag; the timer runs from 12000 down to
1 while the flag is set and stands at 0 while it is clear (R139). -/
def OutputsOk (s : State) : Prop :=
  ∀ i : OutId,
    let o := s.outputs[i]
    (o.primary = none → o.sel = .silent ∧ o.failed = false)
    ∧ (o.primary ≠ none → (o.sel = .primary ↔ o.failed = false))
    ∧ (o.sel = .backup → o.action = .backup)
    ∧ (o.failed = true → o.action ≠ .hold ∧ 1 ≤ o.holdoff ∧ o.holdoff ≤ 12000)
    ∧ (o.failed = false → o.holdoff = 0)

/-- The paths: one is DISABLED just while its flag is clear in PATH_ENABLE; a good count of 48 and a miss run of 12 are
never left standing in ACQUIRE, nor a miss run of 12 or a finished block where the path carries its port (R5 to R8). -/
def PathsOk (s : State) : Prop :=
  ∀ p x,
    let r := (s.paths.get p).get x
    (r.state = .disabled ↔ (s.settings.pathEnable.get p).get x = false)
    ∧ (r.state = .acquire → r.goodCount < 48 ∧ r.missRun < 12)
    ∧ (r.state = .up ∨ r.state = .degraded →
        r.missRun < 12 ∧ r.blockCount < 256 ∧ r.suspectCount ≤ 255 ∧ r.acq = none)

/-- The banks: the timer counts down from 12000 in HOLDOFF, up from 0 toward 60000 in RETRY, and stands at 0 otherwise;
the trip count is at most 3, and 3 only in LOCKED_OUT (chapter 7, "Bank states"; R113, R114). -/
def BanksOk (s : State) : Prop :=
  ∀ b : BankId,
    let k := s.phantom.banks[b]
    k.last < 1024
    ∧ match k.state with
      | .normal => k.trips = 0 ∧ k.timer = 0
      | .holdoff => 1 ≤ k.trips ∧ k.trips ≤ 2 ∧ 1 ≤ k.timer ∧ k.timer ≤ 12000
      | .retry => k.trips ≤ 2 ∧ k.timer < 60000
      | .lockedOut => k.trips = 3 ∧ k.timer = 0

end Sys2Proof.Safety
end

