-- ==== Sys2Proof/Certificates/Slice0/Obligations.lean ====
section
/-! DEFINITION. The statements for the provers, each from the numbered rules of spec/. `t` is the state after, `s` the
state before. -/

open Sys2Proof Sys2Proof.Machine Sys2Proof.Safety

/-! ## The queue and every command -/

/-- The command at the front of the queue is taken with the rest of the queue left; on an empty queue the block idles
(the model's choice, log entry 6). -/
def Obligations.StepTakesTheFrontCommand : Prop :=
  (∀ (c : Instr) (s : State), step (s.withPending (c :: s.pending)) = exec c s)
  ∧ ∀ s : State, s.pending = [] → step s = .next s

/-- No rule of the manual stops the part: every command, in every state, completes, and none but the step itself touches
the queue. -/
def Obligations.EveryCommandCompletesAndLeavesTheQueue : Prop :=
  ∀ (c : Instr) (s : State), ∃ t, exec c s = .next t ∧ t.pending = s.pending

/-- The model's choices of log entries 7 and 8, beside R24, R37 and R140: while RSTN is low nothing is taken but RESET,
RSTN_LOW and the record of the transceivers' signal pins; a message or keepalive of a port that is OFFLINE has no
effect. When RSTN goes low no upstream frame is sent any more, the output modules play zero, and the boundary then
falling does not come; what else the part holds stands until RESET replaces it, the alarm lines as they were driven too (log
entry 26). -/
def Obligations.RstnLowStopsThePartAndOfflinePortsSendNothing : Prop :=
  ((∀ (c : Instr) (s : State), s.rstn = false →
     (∀ u, c ≠ .reset u) → c ≠ .rstnLow → (∀ p x, c ≠ .lossOfSignal p x) → (∀ p x, c ≠ .signalReturn p x) →
     exec c s = .next s)
   ∧ (∀ (c : Instr) (s : State) (p : Port) kind tag code, refusalOf s c = some (p, kind, tag, code) →
     online s p = false → exec c s = .next s)
   ∧ ∀ (p : Port) (m : Msg) (s : State), online s p = false → exec (.keepalive p m) s = .next s)
  ∧ (∀ s : State,
       ∃ t, exec .rstnLow s = .next t
         ∧ t.rstn = false
         ∧ (∀ p, (t.sent.get p).frame = none ∧ (t.sent.get p).on.a = false ∧ (t.sent.get p).on.b = false)
         ∧ (∀ i : OutId, t.outputs[i] = { s.outputs[i] with frame := Vector.replicate 8 0 })
         ∧ t.latch.taken = [] ∧ (∀ p, t.latch.cameUp.get p = false) ∧ t.latch.captured = s.latch.captured
         ∧ SameExcept [.rstn, .sent, .outputs, .latch] s t)

/-! ## Stage link (chapter 1) -/

/-- R1: a hunting receiver begins a frame at the sync word; after a frame it begins the next at once where the next word
is the sync word, and hunts where it is not; a disabled receiver, and one without signal, ignores its stream. -/
def Obligations.ReceiverBeginsAFrameAtTheSyncWord : Prop :=
  ∀ (p : Port) (x : PathName) (w : Word) (s : State), s.rstn = true →
    let r := (s.paths.get p).get x
    let listening := r.state ≠ .disabled ∧ (s.signal.get p).get x = true
    let now (phase : RxPhase) : State := s.withPaths (pathsWith p x { r with rx := phase } s)
    (listening ∧ r.rx = .hunting ∧ w = 0xC3A55A3C → exec (.syncWordMatch p x w) s = .next (now .inFrame))
    ∧ (¬ listening ∨ r.rx ≠ .hunting ∨ w ≠ 0xC3A55A3C → exec (.syncWordMatch p x w) s = .next s)
    ∧ (listening ∧ r.rx = .nextWord →
        exec (.returnToHunting p x w) s = .next (now (if w = 0xC3A55A3C then .inFrame else .hunting)))
    ∧ (¬ listening ∨ r.rx ≠ .nextWord → exec (.returnToHunting p x w) s = .next s)

/-- R1, R25, R26, R27, R28: at a loss of signal the receiver hunts and its partial frame is gone; on the reference path
the interval is abandoned, and the reference moves where the other path carries the port and has signal, which for
the selected port is a switch. When the signal returns the receiver hunts; on the reference path a fresh interval
waits for a period to end, and for the selected port the next boundary is placed as after a switch. A completion taken
after the interval was abandoned, by a loss, a move or going OFFLINE, gives no verdict and no last count. That a fresh
interval has begun only after an arrival is the model's choice (log entry 10). -/
def Obligations.SignalLossAndReturnMoveReceiverAndReference : Prop :=
  (∀ (p : Port) (x : PathName) (s : State), s.rstn = true → (s.signal.get p).get x = true →
     let y := otherPath x
     let m := s.clock.monitors.get p
     ∃ t, exec (.lossOfSignal p x) s = .next t
       ∧ (t.signal.get p).get x = false ∧ (t.signal.get p).get y = (s.signal.get p).get y
       ∧ (∀ q, q ≠ p → t.signal.get q = s.signal.get q)
       ∧ t.paths = pathsWith p x { (s.paths.get p).get x with rx := .hunting } s
       ∧ (m.ref ≠ some x → t.clock = s.clock)
       ∧ (m.ref = some x → Carrying p y s ∧ (s.signal.get p).get y = true →
           t.clock = { source := s.clock.source
                       switched := s.clock.switched || s.clock.source == some p
                       monitors := s.clock.monitors.set p { m with ref := some y, interval := .awaiting } })
       ∧ (m.ref = some x → ¬ (Carrying p y s ∧ (s.signal.get p).get y = true) →
           t.clock = { s.clock with monitors := s.clock.monitors.set p { m with interval := .none } })
       ∧ SameExcept [.signal, .paths, .clock] s t)
  ∧ (∀ (p : Port) (x : PathName) (s : State), s.rstn = true → (s.signal.get p).get x = false →
       let m := s.clock.monitors.get p
       ∃ t, exec (.signalReturn p x) s = .next t
         ∧ (t.signal.get p).get x = true
         ∧ (t.signal.get p).get (otherPath x) = (s.signal.get p).get (otherPath x)
         ∧ (∀ q, q ≠ p → t.signal.get q = s.signal.get q)
         ∧ t.paths = pathsWith p x { (s.paths.get p).get x with rx := .hunting } s
         ∧ (m.ref ≠ some x → t.clock = s.clock)
         ∧ (m.ref = some x →
             t.clock = { source := s.clock.source
                         switched := s.clock.switched || s.clock.source == some p
                         monitors := s.clock.monitors.set p { m with interval := .awaiting } })
         ∧ SameExcept [.signal, .paths, .clock] s t)
  ∧ (∀ (p : Port) (ticks : Nat) (s : State),
       s.rstn = false ∨ online s p = false ∨ (s.clock.monitors.get p).interval ≠ .running →
       exec (.intervalComplete p ticks) s = .next s)

/-- R2, chapter 12: a frame's copy is good just where the check over words 2 to 142 is the low half of word 143, and holds
the frame number, the return-valid mask and talk-valid of the header, the four control words, and the low 24 bits of each
sample word, return channel c sample i at word 7 + 8c + (i − 1), desk talk sample i at word 134 + i. R3: an arrival takes
a DARK path to ACQUIRE with a cleared record, and is recorded in ACQUIRE; a good copy becomes the acquisition frame;
nothing is passed to the merge. That the copy which takes a DARK path to ACQUIRE does so too is a deduction (log entry
11): R3 has it recorded alone. -/
def Obligations.ArrivalStartsOrContinuesAcquiring : Prop :=
  (∀ (x : PathName) (f : Frame),
     let c := copyOf x f
     let wordAt (n : Nat) : Word := f.toList[n - 1]?.getD 0
     (c.good = true ↔ checkOver ((List.range 141).map fun n => wordAt (n + 2)) = (wordAt 143).setWidth 16)
     ∧ c.path = x
     ∧ c.frameNo = (wordAt 2).extractLsb' 20 12 ∧ c.mask = (wordAt 2).extractLsb' 4 16
     ∧ c.talkValid = (wordAt 2).getLsbD 3
     ∧ (∀ i : Fin 4, c.control[i] = wordAt (3 + i.val))
     ∧ (∀ (ch : Fin 16) (j : Fin 8), (c.ret[ch])[j] = (wordAt (7 + 8 * ch.val + j.val)).setWidth 24)
     ∧ ∀ j : Fin 8, c.talk[j] = (wordAt (135 + j.val)).setWidth 24)
  ∧ ∀ (p : Port) (x : PathName) (f : Frame) (s : State), Arrives p x f s →
      let r := (s.paths.get p).get x
      let c := copyOf x f
      r.state = .dark ∨ r.state = .acquire →
      ∃ t, exec (.frameArrival p x f) s = .next t
        ∧ (r.state = .dark →
            t.paths = pathsWith p x
              { bareReceiver .acquire .nextWord with
                arrived := true, good := c.good, suspect := !c.good, acq := if c.good then some c else none } s)
        ∧ (r.state = .acquire →
            t.paths = pathsWith p x
              { r with
                rx := .nextWord, arrived := true, good := r.good || c.good, suspect := r.suspect || !c.good
                acq := if c.good then some c else r.acq } s)
        ∧ t.clock = clockAtArrival p x s
        ∧ OnlyConditionsReported s t
        ∧ SameExcept [.paths, .clock, .faults] s t

/-- R14: a copy of a frame at distance 0 to 3 is stored in an EMPTY slot or in place of a SUSPECT copy when it is GOOD,
and is otherwise discarded as a duplicate. -/
def Obligations.CopyWithinTheWindowIsStoredOrCountedDuplicate : Prop :=
  ∀ (p : Port) (x : PathName) (f : Frame) (s : State) (d : Fin 4), Arrives p x f s → Carrying p x s →
    let c := copyOf x f
    let m := s.merges.get p
    m.hunting = false → (c.frameNo - m.playNo).toNat = d.val →
    ∃ t, exec (.frameArrival p x f) s = .next t
      ∧ (m.slots[d] = none → t.merges.get p = { m with slots := vset m.slots d (some c) })
      ∧ (∀ h, m.slots[d] = some h → h.good = false → c.good = true →
          t.merges.get p = { m with slots := vset m.slots d (some c) })
      ∧ (∀ h, m.slots[d] = some h → h.good = true ∨ c.good = false → t.merges.get p = { m with dups := m.dups + 1 })
      ∧ PassedOn p x c s t ∧ OnlyConditionsReported s t

/-- R15, R21: a copy at distance 4 to 2047 slips the window forward until the copy lies at distance 3, discards the
slots passed over, adds the slip to the slip count and raises SLIP for every port; in HUNTING the next copy from a
carrying path, good or suspect, re-centres the window two frames behind it. -/
def Obligations.EarlyCopySlipsAndHuntingCopyRecentresTheWindow : Prop :=
  (∀ (p : Port) (x : PathName) (f : Frame) (s : State), Arrives p x f s → Carrying p x s →
     let c := copyOf x f
     let m := s.merges.get p
     let d := (c.frameNo - m.playNo).toNat
     m.hunting = false → 4 ≤ d ∧ d ≤ 2047 →
     ∃ t, exec (.frameArrival p x f) s = .next t
       ∧ t.merges.get p =
           { m with
             slots := Vector.ofFn fun i : Fin 4 =>
               if i = 3 then some c else if h : i.val + (d - 3) < 4 then m.slots[i.val + (d - 3)] else none
             playNo := c.frameNo - 3
             slips := m.slips + BitVec.ofNat 16 (d - 3) }
       ∧ PassedOn p x c s t ∧ EventReported (fun _ => True) .slip s t)
  ∧ (∀ (p : Port) (x : PathName) (f : Frame) (s : State), Arrives p x f s → Carrying p x s →
       (s.merges.get p).hunting = true →
       ∃ t, exec (.frameArrival p x f) s = .next t
         ∧ t.merges.get p = recentredOn (copyOf x f) (s.merges.get p)
         ∧ PassedOn p x (copyOf x f) s t ∧ OnlyConditionsReported s t)

/-- R16: a copy at distance 2048 or more is discarded, the late count rises by 1, and the window is left as it is. -/
def Obligations.LateCopyIsDiscarded : Prop :=
  ∀ (p : Port) (x : PathName) (f : Frame) (s : State), Arrives p x f s → Carrying p x s →
    let c := copyOf x f
    let m := s.merges.get p
    m.hunting = false → 2048 ≤ (c.frameNo - m.playNo).toNat →
    ∃ t, exec (.frameArrival p x f) s = .next t
      ∧ t.merges.get p = { m with lates := m.lates + 1 } ∧ PassedOn p x c s t ∧ OnlyConditionsReported s t

/-- R5, R11, R25, R30: the 48th good boundary in a row takes a path UP. Where its port was OFFLINE the window is
re-centred on the acquisition frame, the port's clock is CHECKING on that path, the port makes no playout at this
boundary and the selection is re-evaluated; where it was ONLINE the acquisition frame is placed as an ordinary copy.
The model's choices: the good count stands at 48 while the path is UP (log entry 11), and the row is that unit of the
boundary now falling, taken alone and marked (log entry 5). -/
def Obligations.PathUpBringsItsPortOnline : Prop :=
  ∀ (p : Port) (x : PathName) (c : Copy) (s : State), NotYetTaken (.score p x) s →
    let r := (s.paths.get p).get x
    let k := clockAtWork s
    let m := k.monitors.get p
    r.state = .acquire → r.arrived = true → r.suspect = false → r.goodCount = 47 → r.acq = some c →
    ∃ t, exec (.pathUp p x) s = .next t
      ∧ t.paths = pathsWith p x { bareReceiver .up r.rx with goodCount := 48 } s
      ∧ (online s p = false →
          t.merges = s.merges.set p (recentredOn c (s.merges.get p))
          ∧ t.clock.monitors = k.monitors.set p
              { m with state := .checking, run := 0, ref := some x,
                       interval := if (s.signal.get p).get x then .awaiting else .none }
          ∧ t.clock.source = firstGood s.settings.clockPriority t.clock
          ∧ (t.clock.switched = true ↔ k.switched = true ∨ t.clock.source ≠ s.clock.source)
          ∧ t.latch = { s.latch with taken := .score p x :: s.latch.taken, cameUp := s.latch.cameUp.set p true }
          ∧ OnlyConditionsReported s t)
      ∧ (online s p = true →
          t.merges = (placeCopy p c s).merges ∧ t.clock = k ∧ Marked (.score p x) s t
          ∧ ((s.merges.get p).hunting = true ∨ (c.frameNo - (s.merges.get p).playNo).toNat < 4
              ∨ 2048 ≤ (c.frameNo - (s.merges.get p).playNo).toNat → OnlyConditionsReported s t)
          ∧ ((s.merges.get p).hunting = false → 4 ≤ (c.frameNo - (s.merges.get p).playNo).toNat →
              (c.frameNo - (s.merges.get p).playNo).toNat < 2048 → EventReported (fun _ => True) .slip s t))
      ∧ SameExcept [.paths, .merges, .clock, .latch, .faults] s t

/-- R5, R7: twelve misses in a row take a path in ACQUIRE to DARK, its record and acquisition frame gone; the 256th
boundary of a degrade block puts a carrying path in DEGRADED at 8 suspect arrivals or more and in UP below, and the
block restarts. That each row is a unit of the boundary now falling, taken alone and marked, is the model's choice (log
entry 5); that the whole receiver is clear in DARK, the miss run too, is a deduction (log entry 11). Below those
thresholds a score only counts: in ACQUIRE a miss sets the good count to 0 and raises the miss run, a suspect hit sets
both to 0, a good hit raises the good count and sets the miss run to 0; a carrying path's miss raises its miss run, its
hit sets it to 0, and either raises the block's boundary count and leaves the suspect count, which R3 raises at an
arrival; the interval record is cleared. A DARK or DISABLED path does not score. -/
def Obligations.AcquiringPathGoesDarkAndDegradeBlockIsJudged : Prop :=
  (∀ (p : Port) (x : PathName) (s : State), NotYetTaken (.score p x) s →
     let r := (s.paths.get p).get x
     (r.state = .acquire → r.arrived = false → r.missRun = 11 →
       ∃ t, exec (.acquireMissDark p x) s = .next t
         ∧ t.paths = pathsWith p x (bareReceiver .dark r.rx) s
         ∧ t.clock = clockAtWork s ∧ Marked (.score p x) s t ∧ OnlyConditionsReported s t
         ∧ SameExcept [.paths, .clock, .latch, .faults] s t)
     ∧ (Carrying p x s → r.blockCount = 255 → r.arrived = true ∨ r.missRun < 11 →
       ∃ t, exec (.degradeBlockJudged p x) s = .next t
         ∧ t.paths = pathsWith p x
             { r with
               state := if 8 ≤ r.suspectCount then .degraded else .up
               arrived := false, good := false, suspect := false
               missRun := if r.arrived then 0 else r.missRun + 1, blockCount := 0, suspectCount := 0 } s
         ∧ t.clock = clockAtWork s ∧ Marked (.score p x) s t ∧ OnlyConditionsReported s t
         ∧ SameExcept [.paths, .clock, .latch, .faults] s t))
  ∧ ∀ (p : Port) (x : PathName) (s : State),
      let r := (s.paths.get p).get x
      let t := workEffect (.score p x) s
      let scoredAs (r' : PathRec) : Prop :=
        t.paths = pathsWith p x { r' with arrived := false, good := false, suspect := false } s
          ∧ OnlyConditionsReported s t ∧ SameExcept [.paths, .faults] s t
      (r.state = .dark ∨ r.state = .disabled → t = s)
      ∧ (r.state = .acquire → r.arrived = false → r.missRun < 11 →
          scoredAs { r with goodCount := 0, missRun := r.missRun + 1 })
      ∧ (r.state = .acquire → r.arrived = true → r.suspect = true → scoredAs { r with goodCount := 0, missRun := 0 })
      ∧ (r.state = .acquire → r.arrived = true → r.suspect = false → r.goodCount < 47 →
          scoredAs { r with goodCount := r.goodCount + 1, missRun := 0 })
      ∧ (Carrying p x s → r.arrived = true ∨ r.missRun < 11 → r.blockCount < 255 →
          scoredAs { r with
            missRun := if r.arrived then 0 else r.missRun + 1, blockCount := r.blockCount + 1 })

/-- R6, R10, R12, R25, R30, R44, R49, R177: twelve misses in a row take a carrying path to DARK. Where the other path
still carries the port, the reference path moves to it if it was this one; where none does, the port goes OFFLINE: its
merge takes the OFFLINE form, its lanes are emptied, its talk mask is cleared, its clock is UNUSABLE, the selection and
the outputs are re-evaluated. The mark of the unit taken is the model's (log entry 5). -/
def Obligations.PathDarkTakesItsPortOffline : Prop :=
  ∀ (p : Port) (x : PathName) (s : State), NotYetTaken (.score p x) s →
    let r := (s.paths.get p).get x
    let y := otherPath x
    let k := clockAtWork s
    let m := k.monitors.get p
    Carrying p x s → r.arrived = false → r.missRun = 11 →
    ∃ t, exec (.pathDark p x) s = .next t
      ∧ t.paths = pathsWith p x (bareReceiver .dark r.rx) s
      ∧ Marked (.score p x) s t ∧ OnlyConditionsReported s t
      ∧ (Carrying p y s →
          (m.ref ≠ some x → t.clock = k)
          ∧ (m.ref = some x →
              t.clock = { source := s.clock.source
                          switched := k.switched || s.clock.source == some p
                          monitors := k.monitors.set p
                            { m with ref := some y, interval := if (s.signal.get p).get y then .awaiting else .none } })
          ∧ SameExcept [.paths, .clock, .latch, .faults] s t)
      ∧ (¬ Carrying p y s →
          online t p = false
          ∧ t.merges = s.merges.set p (offlineForm (s.merges.get p))
          ∧ t.lanes = s.lanes.set p { asm := none, queue := [], sent := 0 }
          ∧ t.talkMask = s.talkMask.set p 0
          ∧ t.clock.monitors = k.monitors.set p { m with state := .unusable, run := 0, ref := none, interval := .none }
          ∧ t.clock.source = firstGood s.settings.clockPriority t.clock
          ∧ (t.clock.switched = true ↔ k.switched = true ∨ t.clock.source ≠ s.clock.source)
          ∧ (∀ i : OutId, t.outputs[i] = followOutput s t s.outputs[i])
          ∧ SameExcept [.paths, .merges, .lanes, .clock, .talkMask, .outputs, .latch, .faults] s t)

/-- R20, R21: the twelfth missing playout in a row empties the window, puts it in HUNTING, counts a resync and raises
RESYNC for every port; the playout itself advances P, hands on concealment and aborts a message in progress. The
mark of the unit taken is the model's (log entry 5). -/
def Obligations.TwelfthMissingPlayoutResyncs : Prop :=
  ∀ (p : Port) (s : State), NotYetTaken (.playout p) s →
    let m := s.merges.get p
    let k := min 4 (m.missRun + 1)
    online s p = true → s.latch.cameUp.get p = false → m.hunting = false → m.slots[0] = none → m.emptyRun = 11 →
    ∃ t, exec (.resync p) s = .next t
      ∧ t.merges = s.merges.set p
          { m with
            slots := #v[none, none, none, none], playNo := m.playNo + 1, hunting := true, missRun := k, emptyRun := 0
            resyncs := m.resyncs + 1 }
      ∧ (∀ (i : Fin 16) (j : Fin 8),
          (((t.latch.handoff.get p).ret[i])[j]).toInt = concealedSample k m.heldRet[i].toInt (j.val + 1))
      ∧ (∀ j : Fin 8,
          ((t.latch.handoff.get p).talk[j]).toInt =
            if m.talkValid then concealedSample k m.heldTalk.toInt (j.val + 1) else 0)
      ∧ t.latch = { s.latch with
          taken := .playout p :: s.latch.taken, handoff := s.latch.handoff.set p (t.latch.handoff.get p) }
      ∧ t.clock = clockAtWork s
      ∧ t.lanes = s.lanes.set p { s.lanes.get p with asm := none }
      ∧ t.faults.active = s.faults.active
      ∧ (∀ q, t.faults.sticky.get q &&& faultBit .resync = faultBit .resync)
      ∧ ((s.lanes.get p).asm = none → EventReported (fun _ => True) .resync s t)
      ∧ (∀ a, (s.lanes.get p).asm = some a → a.forUs = true →
          t.faults.sticky.get p &&& faultBit .controlDrop = faultBit .controlDrop)
      ∧ SameExcept [.merges, .latch, .clock, .lanes, .faults] s t

/-- R18, R19, R176: a delivered SUSPECT frame is handed on as received, its mask and talk-valid come into force, its
eighth samples are held, both runs are 0, its path is the last delivered one, the window moves on by one, and the lane
takes a break, which raises CONTROL_DROP at the port where a message for us was in progress (R43, R44) and otherwise
reports nothing; the outputs are re-evaluated. A delivered GOOD frame whose control words are all IDLE does the same and
leaves the message in progress. That the mask comes into force before the control words are taken is a deduction (log
entry 13). R20, R21: a missing frame advances P and both runs, below the twelfth in a row, and in HUNTING, where P stays
(a deduction, log entry 12), the missing run alone; it hands on concealment, and a message in progress is aborted. R11,
R12: an OFFLINE port hands on zero audio, and a port makes no playout at the boundary at which it went ONLINE. R39: of a
delivered GOOD frame with any control words, the four are taken in order from the state that the frame with IDLE words
leaves, each against the record as the one before left it, and the rest are discarded unexamined once a message has
taken the port OFFLINE; the audio stays as handed on. -/
def Obligations.PlayoutDeliversTheFrameNumberedP : Prop :=
  (∀ (p : Port) (c : Copy) (s : State),
    let m := s.merges.get p
    let t := playout p s
    online s p = true → s.latch.cameUp.get p = false → m.hunting = false → m.slots[0] = some c →
    (c.good = true → ∀ i : Fin 4, c.control[i].toNat < 2 ^ 30) →
    t.merges = s.merges.set p
        { m with
          slots := #v[m.slots[1], m.slots[2], m.slots[3], none], playNo := m.playNo + 1
          mask := c.mask, talkValid := c.talkValid, missRun := 0, emptyRun := 0, lastPath := some c.path
          heldRet := Vector.ofFn fun i : Fin 16 => (c.ret[i])[7], heldTalk := c.talk[7] }
      ∧ t.latch = { s.latch with
          handoff := s.latch.handoff.set p
            { ret := c.ret, talk := if c.talkValid then c.talk else Vector.replicate 8 0 } }
      ∧ (∀ i : OutId, t.outputs[i] = followOutput s t s.outputs[i])
      ∧ (c.good = true → t.lanes = s.lanes ∧ OnlyConditionsReported s t)
      ∧ (c.good = false →
          t.lanes = s.lanes.set p { s.lanes.get p with asm := none }
          ∧ ((∀ a, (s.lanes.get p).asm = some a → a.forUs = false) → OnlyConditionsReported s t)
          ∧ (∀ a, (s.lanes.get p).asm = some a → a.forUs = true →
              EventReported (· = p) .controlDrop s t ∧ ∀ q, t.faults.active.get q = conditionsOf t q))
      ∧ SameExcept [.merges, .latch, .outputs, .lanes, .faults] s t)
  ∧ (∀ (p : Port) (c : Copy) (s : State),
      let m := s.merges.get p
      let t := playout p s
      let idle : Copy := { c with control := Vector.replicate 4 0 }
      let afterIdle := playout p (s.withMerges (s.merges.set p { m with slots := vset m.slots 0 (some idle) }))
      online s p = true → s.latch.cameUp.get p = false → m.hunting = false → m.slots[0] = some c → c.good = true →
      t = c.control.toList.foldl (fun u w => if online u p then takeWord p w u else u) afterIdle
        ∧ t.latch = { s.latch with
            handoff := s.latch.handoff.set p
              { ret := c.ret, talk := if c.talkValid then c.talk else Vector.replicate 8 0 } })
  ∧ (∀ (p : Port) (s : State),
      let m := s.merges.get p
      let t := playout p s
      let k := min 4 (m.missRun + 1)
      online s p = true → s.latch.cameUp.get p = false →
      m.hunting = true ∨ (m.slots[0] = none ∧ m.emptyRun < 11) →
      t.merges = s.merges.set p
          (if m.hunting then { m with missRun := k }
           else { m with
             slots := #v[m.slots[1], m.slots[2], m.slots[3], none], playNo := m.playNo + 1
             missRun := k, emptyRun := m.emptyRun + 1 })
        ∧ (∀ (i : Fin 16) (j : Fin 8),
            (((t.latch.handoff.get p).ret[i])[j]).toInt = concealedSample k m.heldRet[i].toInt (j.val + 1))
        ∧ (∀ j : Fin 8, ((t.latch.handoff.get p).talk[j]).toInt =
            if m.talkValid then concealedSample k m.heldTalk.toInt (j.val + 1) else 0)
        ∧ t.latch = { s.latch with handoff := s.latch.handoff.set p (t.latch.handoff.get p) }
        ∧ t.lanes = s.lanes.set p { s.lanes.get p with asm := none }
        ∧ ((∀ a, (s.lanes.get p).asm = some a → a.forUs = false) → t.faults = s.faults)
        ∧ (∀ a, (s.lanes.get p).asm = some a → a.forUs = true → EventReported (· = p) .controlDrop s t)
        ∧ SameExcept [.merges, .latch, .lanes, .faults] s t)
  ∧ ∀ (p : Port) (s : State),
      (online s p = false →
        playout p s = s.withLatch { s.latch with
          handoff := s.latch.handoff.set p
            { ret := Vector.replicate 16 (Vector.replicate 8 0), talk := Vector.replicate 8 0 } })
      ∧ (online s p = true → s.latch.cameUp.get p = true → playout p s = s)

/-- R23, R24, R26, R103, R111: a boundary completes in every order of its work and whatever part of it has been taken
ahead. Where the frames have not been built yet, all three ports send the frame that the state at that moment, after the
work ordered before it, makes (UpstreamFrameCarriesTheStateAsItStands), on the paths then enabled; it carries the stage
frame number and the unit address under its own check, and the number then advances by one. Where they have been built
ahead, they stand. Each record's period gain is the D that the boundary's events leave; the next bank's conversion
begins; the marks of the boundary are clear, and the ports' hand-offs are zero audio again, which a port that makes no
playout at the next boundary leaves (R11, R140). That the command names the order, and that a unit may be taken ahead, are
the model's choices (log entries 4 and 5). -/
def Obligations.BoundarySendsOneFramePerPortAndMovesOn : Prop :=
  ∀ (i : BoundaryInput) (s : State), s.rstn = true →
    let built := afterWork i ((workOf i).takeWhile fun w => w != .build) s
    ∃ t, exec (.stageFrameBoundary i) s = .next t
      ∧ (.build ∉ s.latch.taken →
          t.frameNo = s.frameNo + 1
          ∧ (∀ p, t.sent.get p = { frame := some (upFrame built p), on := built.settings.pathEnable.get p })
          ∧ (∀ p, (upFrame built p).header = s.frameNo ++ 0#18 ++ s.unitAddr)
          ∧ (i.order = [] → ∀ p, (t.sent.get p).on = t.settings.pathEnable.get p))
      ∧ (.build ∈ s.latch.taken → t.frameNo = s.frameNo ∧ t.sent = s.sent)
      ∧ (∀ p (c : Chan), ((t.tracks.get p)[c]).period = ((t.tracks.get p)[c]).gain)
      ∧ t.phantom.scan.val = (s.phantom.scan.val + 1) % 6
      ∧ t.latch.taken = [] ∧ (∀ p, t.latch.cameUp.get p = false)
      ∧ (∀ p, t.latch.handoff.get p =
          { ret := Vector.replicate 16 (Vector.replicate 8 0), talk := Vector.replicate 8 0 })
      ∧ t.rstn = s.rstn ∧ t.unitAddr = s.unitAddr ∧ t.signal = s.signal ∧ t.pending = s.pending

/-- R23, R51, R53, R54, R89, R106, R107, R167, R168: when a port's frame is built, its status words show the state as it
stands, the queue depth after the frame's words are taken; its four reply words leave the port's lane; each channel's
samples are the captured ones after the phantom mute, through the gain function at the port's period gain, and a
saturation sets that port's send-clip flag; the stage talk samples are the talk source's at the stage talk level while
an enabled key of the port is talking, and zero otherwise; the check is that of words 2 to 400. Each word has its place in
the frame of 401 (chapter 12). The frame goes to the paths then enabled, and nothing else changes. What saturates is log entry 24's reading of R105. -/
def Obligations.UpstreamFrameCarriesTheStateAsItStands : Prop :=
  ∀ (p : Port) (s : State),
    let t := buildFrame s p
    let f := upFrame s p
    let up (q : Port) (x : PathName) : Bool :=
      let r := (s.paths.get q).get x
      r.state == .up || r.state == .degraded
    let state (q : Port) : BitVec 2 := BitVec.ofNat 2 ((up q .a).toNat + (up q .b).toNat)
    let call (k : KeyId) : BitVec 1 := BitVec.ofBool (s.calls.get p)[k].pending
    let notNormal (b : BankId) : BitVec 1 := BitVec.ofBool (s.phantom.banks[b].state != .normal)
    let talks (k : KeyId) : Prop :=
      let conf := s.settings.keys[k]
      let r := s.keys[k]
      conf.enabled = true ∧ conf.ports.get p = true
        ∧ if conf.latch then (r.state = .released ∨ r.state = .pressed) ∧ r.toggle = true else r.state = .pressed
    let scaled (c : Chan) (j : Fin 8) : Sample × Bool := gainFunction (heardSample s c j) (s.tracks.get p)[c].period
    let lane := laneAfter s.unitAddr (s.lanes.get p) 4
    f.header = s.frameNo ++ 0#18 ++ s.unitAddr
    ∧ f.status0 = BitVec.ofBool (s.presence.get p).present ++ state .p0 ++ state .p1 ++ state .p2
        ++ BitVec.ofNat 2 (partyCode s.clock.source) ++ BitVec.ofBool (s.faults.sticky.get p != 0)
        ++ call 3 ++ call 2 ++ call 1 ++ call 0 ++ s.unitAddr ++ s.journal.gen.setWidth 16
    ∧ (∃ limited talk : Bool,
        f.status1 = s.faults.sticky.get p
          ++ notNormal 5 ++ notNormal 4 ++ notNormal 3 ++ notNormal 2 ++ notNormal 1 ++ notNormal 0
          ++ BitVec.ofNat 4 lane.queue.length ++ BitVec.ofBool limited ++ BitVec.ofBool talk ++ 0#8
        ∧ (limited = true ↔ ∃ c : Chan, (s.tracks.get p)[c].limited = true)
        ∧ (talk = true ↔ ∃ k, talks k)
        ∧ ∀ j : Fin 8, f.talk[j] =
            if talk then (gainFunction (heardSample s s.settings.talkSource j) s.settings.talkLevel).1 else 0)
    ∧ f.replies = replyLanes s.unitAddr (s.lanes.get p)
    ∧ (∀ (c : Chan) (j : Fin 8), (f.mic[c])[j] = (scaled c j).1)
    ∧ f.check = checkOver ((f.words.drop 1).take 399)
    ∧ f.words.length = 401
    ∧ (let wordAt (n : Nat) : Option Word := f.words[n - 1]?
       wordAt 1 = some 0xC3A55A3C ∧ wordAt 2 = some f.header ∧ wordAt 3 = some f.status0 ∧ wordAt 4 = some f.status1
       ∧ (∀ i : Fin 4, wordAt (5 + i.val) = some f.replies[i])
       ∧ (∀ (c : Chan) (j : Fin 8), wordAt (9 + 8 * c.val + j.val) = some (0#8 ++ (f.mic[c])[j]))
       ∧ (∀ j : Fin 8, wordAt (393 + j.val) = some (0#8 ++ f.talk[j]))
       ∧ wordAt 401 = some (0#16 ++ f.check))
    ∧ t.sent = s.sent.set p { frame := some f, on := s.settings.pathEnable.get p }
    ∧ t.lanes = s.lanes.set p lane
    ∧ (∀ c : Chan, (t.meters.get p)[c] =
        let r := (s.meters.get p)[c]
        { r with sendClip := r.sendClip || (List.finRange 8).any fun j => (scaled c j).2 })
    ∧ (∀ q, q ≠ p → t.meters.get q = s.meters.get q)
    ∧ SameExcept [.sent, .lanes, .meters] s t

/-! ## Stage clock (chapter 2) -/

/-- R27, R29, R32, R34: a completed interval's count, which stops at 4,194,303, becomes the last count and is judged; the
verdict moves the clock state and the run by the table; a change of state re-evaluates the selection; GOOD to BAD raises
CLOCK_REJECT for every port. -/
def Obligations.CompletedIntervalMovesTheClockState : Prop :=
  ∀ (p : Port) (ticks : Nat) (s : State), s.rstn = true → online s p = true →
    let m := s.clock.monitors.get p
    let count := if ticks ≤ 4194303 then ticks else 4194303
    let ok := 2456372 ≤ count ∧ count ≤ 2458828
    m.interval = .running → m.state ≠ .unusable →
    ∃ t, exec (.intervalComplete p ticks) s = .next t
      ∧ (let n := t.clock.monitors.get p
         n.last = count ∧ n.ref = m.ref ∧ n.interval = .running
         ∧ (m.state = .good → ok → n.state = .good ∧ n.run = 0)
         ∧ (m.state = .good → ¬ ok → m.run < 1 → n.state = .good ∧ n.run = m.run + 1)
         ∧ (m.state = .good → ¬ ok → 1 ≤ m.run →
             n.state = .bad ∧ n.run = 0 ∧ EventReported (fun _ => True) .clockReject s t)
         ∧ (m.state ≠ .good → ok → m.run < 9 → n.state = m.state ∧ n.run = m.run + 1)
         ∧ (m.state ≠ .good → ok → 9 ≤ m.run → n.state = .good ∧ n.run = 0)
         ∧ (m.state ≠ .good → ¬ ok → n.state = m.state ∧ n.run = 0)
         ∧ (n.state ≠ .bad ∨ m.state ≠ .good → OnlyConditionsReported s t)
         ∧ (n.state = m.state → t.clock.source = s.clock.source ∧ t.clock.switched = s.clock.switched)
         ∧ (n.state ≠ m.state →
             t.clock.source = firstGood s.settings.clockPriority t.clock
             ∧ (t.clock.switched = true ↔ s.clock.switched = true ∨ t.clock.source ≠ s.clock.source)))
      ∧ (∀ q, q ≠ p → t.clock.monitors.get q = s.clock.monitors.get q)
      ∧ SameExcept [.clock, .faults] s t

/-! ## Control lane (chapter 3) -/

/-- R45, R46, R50: a message that fails a test is refused with the code of the first test it fails; its reply carries no
BODY words, and it changes no state but the presence timer (`refusalOf` lists each kind's tests in their order). A
message with a reply that completes while its port's queue holds 8 replies is not executed and gets no reply; it
restarts the presence timer and raises REPLY_OVERRUN at its port. UNKNOWN_KIND_MESSAGE (code UNKNOWN) and
WRITE_SETTING_BAD_ITEM (BAD_LENGTH or BAD_INDEX) are refused on every path, so this is where they complete.
That a message row leaves a message in progress as it stands is the model's choice (log entry 23), here and wherever a
statement says `Answered`. -/
def Obligations.MessageNotExecutedChangesNothingButPresence : Prop :=
  (∀ (c : Instr) (s : State) (p : Port) (kind : BitVec 6) (tag : BitVec 8) (code : Code),
     refusalOf s c = some (p, kind, tag, some code) → c.wf = true → Ready p s →
     ∃ t, exec c s = .next t ∧ Answered p ⟨kind, tag, code, []⟩ [] s t ∧ FaultsAsHeard p s t)
  ∧ (∀ (c : Instr) (s : State) (p : Port) (kind : BitVec 6) (tag : BitVec 8) (code : Option Code),
       refusalOf s c = some (p, kind, tag, code) → c.wf = true → s.rstn = true → online s p = true →
       8 ≤ (s.lanes.get p).queue.length →
       ∃ t, exec c s = .next t ∧ Heard p s t ∧ EventReported (· = p) .replyOverrun s t
         ∧ SameExcept [.presence, .faults] s t)

/-- R40, R41, R42, R44: what each type of control word does to the assembly record. IDLE leaves it; type 11 aborts a
message in progress; a BODY word with no message in progress is stray; a BODY word advances the message, and the one
that reaches the announced length completes it; a HEAD word drops a partial message and begins a new one, which
completes at once at length 0. CONTROL_DROP is raised for a message for us and for a stray word. R45, R46, R62: a
message that completes so, of any kind, is what its row of the table does while the part runs and the port is ONLINE,
and every kind, argument and list of BODY words is some row's message. -/
def Obligations.ControlWordsAssembleMessages : Prop :=
  (∀ (p : Port) (w : Word) (s : State),
     let asm := (s.lanes.get p).asm
     let type := w.toNat / 2 ^ 30
     let holding (r : Option Assembly) (s : State) : State :=
       s.withLanes (s.lanes.set p { s.lanes.get p with asm := r })
     let forUs (a : Assembly) : Prop := a.forUs = true
     (type = 0 → takeWord p w s = s)
     ∧ (type = 3 → asm = none → takeWord p w s = s)
     ∧ (∀ a, type = 3 → asm = some a →
         (¬ forUs a → takeWord p w s = holding none s)
         ∧ (forUs a → takeWord p w s = raiseAt .controlDrop p (holding none s)))
     ∧ (type = 2 → asm = none → takeWord p w s = raiseAt .controlDrop p s)
     ∧ (∀ a, type = 2 → asm = some a → a.count + 1 < a.length →
         takeWord p w s = holding (some { a with
           count := a.count + 1, body := if a.forUs then a.body ++ [w.setWidth 30] else a.body }) s)
     ∧ (∀ a, type = 2 → asm = some a → a.length ≤ a.count + 1 →
         (¬ forUs a → takeWord p w s = holding none s)
         ∧ (forUs a → takeWord p w s =
             completeMessage p a.kind ⟨a.tag, a.arg, a.body ++ [w.setWidth 30]⟩ (holding none s)))
     ∧ (type = 1 →
         let dropped := match asm with
           | some a => if a.forUs then raiseAt .controlDrop p (holding none s) else holding none s
           | none => s
         let us := w.extractLsb' 27 3 = 0#1 ++ s.unitAddr ∨ w.extractLsb' 27 3 = 7
         let length := (w.extractLsb' 17 4).toNat
         (0 < length → takeWord p w s = holding (some
             { unit := w.extractLsb' 27 3, kind := w.extractLsb' 21 6, length := length, tag := w.extractLsb' 9 8
               arg := w.extractLsb' 0 9, forUs := decide us, count := 0, body := [] }) dropped)
         ∧ (length = 0 → ¬ us → takeWord p w s = holding none dropped)
         ∧ (length = 0 → us → takeWord p w s =
             completeMessage p (w.extractLsb' 21 6) ⟨w.extractLsb' 9 8, w.extractLsb' 0 9, []⟩ (holding none dropped))))
  ∧ (∀ (c : Instr) (p : Port) (kind : BitVec 6) (m : Msg) (s : State), messageOf c = some (p, kind, m) →
       s.rstn = true → online s p = true → exec c s = .next (completeMessage p kind m s))
  ∧ ∀ (p : Port) (kind : BitVec 6) (m : Msg),
      ∃ c, messageOf c = some (p, kind, m) ∧ (m.body.length ≤ 15 → c.wf = true)

/-- R48, R51: the four reply words of a frame are the next unsent words of the port's replies, packed one after another,
and IDLE where the queue has none left; what remains in the queue is what was not taken. The IDLE
word sent is the word 0 (a deduction, log entry 18). -/
def Obligations.FrameTakesTheNextFourReplyWords : Prop :=
  ∀ (address : BitVec 2) (l : Lane),
    let words (r : Reply) : List Word :=
      (0b010#3 ++ address ++ r.kind ++ BitVec.ofNat 4 r.body.length ++ r.tag ++ BitVec.ofNat 4 (codeNo r.code) ++ 0#5)
        :: r.body.map fun b => 0b10#2 ++ b
    let unsent (l : Lane) : List Word := (l.queue.flatMap words).drop l.sent
    (match l.queue with
      | [] => l.sent = 0
      | r :: _ => l.sent ≤ r.body.length) →
    (∀ i : Fin 4, (replyLanes address l)[i] = (unsent l)[i.val]?.getD 0)
    ∧ unsent (laneAfter address l 4) = (unsent l).drop 4
    ∧ (laneAfter address l 4).asm = l.asm

/-! ## Presence and ownership (chapter 4) -/

/-- R55, R56, R62: a KEEPALIVE restarts its port's presence timer and makes the port PRESENT, whatever its argument and
length and whatever the reply queue holds; it gets no reply and raises no event. That a message in progress stays is the model's
choice (log entry 23). -/
def Obligations.KeepaliveRestartsThePresenceTimerOnly : Prop :=
  ∀ (p : Port) (m : Msg) (s : State), s.rstn = true → online s p = true →
    ∃ t, exec (.keepalive p m) s = .next t
      ∧ t.presence = s.presence.set p { present := true, running := true, elapsed := 0 }
      ∧ OnlyConditionsReported s t ∧ SameExcept [.presence, .faults] s t

/-- R66, R97: an executed CLAIM_CHANNELS grants each channel that has no owner, keeps the claimer's own, refuses one owned
by another port that is PRESENT and takes over one whose owner is ABSENT; each change rebases the claimer's record and
makes an entry by the claimer, in ascending index. That a message in progress stays is the model's choice (log entry
23). -/
def Obligations.ClaimChannelsGrantsWhatNoPresentDeskOwns : Prop :=
  ∀ (p : Port) (m : Msg) (s : State), Ready p s → refuseRange 47 48 m = none →
    let named (c : Chan) : Bool := decide (m.arg.toNat ≤ c.val ∧ c.val < m.arg.toNat + word m 0 % 64)
    let refused (c : Chan) : Bool := named c && match s.owners.chan[c] with
      | none => false
      | some q => q != p && (s.presence.get q).present
    let changes (c : Chan) : Bool := named c && !refused c && s.owners.chan[c] != some p
    ∃ t body, exec (.claimChannels p m) s = .next t
      ∧ IsChanMask (fun c => refused c = true) body
      ∧ Answered p ⟨2, m.tag, if (List.finRange 48).any refused then .owned else .done, body⟩
          [.owners, .tracks, .journal] s t
      ∧ (∀ c : Chan, t.owners.chan[c] = if changes c then some p else s.owners.chan[c])
      ∧ t.owners.out = s.owners.out
      ∧ (∀ c : Chan, (t.tracks.get p)[c] =
          if changes c then rebased s.channels[c].eff (s.tracks.get p)[c] else (s.tracks.get p)[c])
      ∧ (∀ q, q ≠ p → t.tracks.get q = s.tracks.get q)
      ∧ t.journal = journalWith (((List.finRange 48).filter changes).map fun c =>
          ⟨.ownerCh, c.val, some p, BitVec.ofNat 16 (portNo p)⟩) s.journal
      ∧ OnlyConditionsReported s t

/-- R67, R68, R69: an executed CLAIM_OUTPUTS treats each named output by the table of R66 with no rebase; a release sets
to NONE the owner of each named subject that the sending port owns, in ascending index, with an entry by that port,
and its reply's mask has the released ones; tracking records and output records stay as they are. -/
def Obligations.OutputClaimsAndReleasesChangeOwnersOnly : Prop :=
  (∀ (p : Port) (m : Msg) (s : State), Ready p s → refuseLength 1 m = none →
     let refused (o : OutId) : Bool := (word m 0).testBit o.val && match s.owners.out[o] with
       | none => false
       | some q => q != p && (s.presence.get q).present
     let changes (o : OutId) : Bool := (word m 0).testBit o.val && !refused o && s.owners.out[o] != some p
     ∃ t body, exec (.claimOutputs p m) s = .next t
       ∧ IsOutMask (fun o => refused o = true) body
       ∧ Answered p ⟨4, m.tag, if (List.finRange 16).any refused then .owned else .done, body⟩ [.owners, .journal] s t
       ∧ (∀ o : OutId, t.owners.out[o] = if changes o then some p else s.owners.out[o])
       ∧ t.owners.chan = s.owners.chan
       ∧ t.journal = journalWith (((List.finRange 16).filter changes).map fun o =>
           ⟨.ownerOut, o.val, some p, BitVec.ofNat 16 (portNo p)⟩) s.journal
       ∧ FaultsAsHeard p s t)
  ∧ ((∀ (p : Port) (m : Msg) (s : State), Ready p s → refuseRange 47 48 m = none →
       let freed (c : Chan) : Bool :=
         decide (m.arg.toNat ≤ c.val ∧ c.val < m.arg.toNat + word m 0 % 64) && s.owners.chan[c] == some p
       ∃ t body, exec (.releaseChannels p m) s = .next t
         ∧ IsChanMask (fun c => freed c = true) body
         ∧ Answered p ⟨3, m.tag, .done, body⟩ [.owners, .journal] s t
         ∧ (∀ c : Chan, t.owners.chan[c] = if freed c then none else s.owners.chan[c])
         ∧ t.owners.out = s.owners.out
         ∧ t.journal = journalWith (((List.finRange 48).filter freed).map fun c => ⟨.ownerCh, c.val, some p, 3⟩) s.journal
         ∧ FaultsAsHeard p s t)
     ∧ ∀ (p : Port) (m : Msg) (s : State), Ready p s → refuseLength 1 m = none →
       let freed (o : OutId) : Bool := (word m 0).testBit o.val && s.owners.out[o] == some p
       ∃ t body, exec (.releaseOutputs p m) s = .next t
         ∧ IsOutMask (fun o => freed o = true) body
         ∧ Answered p ⟨5, m.tag, .done, body⟩ [.owners, .journal] s t
         ∧ (∀ o : OutId, t.owners.out[o] = if freed o then none else s.owners.out[o])
         ∧ t.owners.chan = s.owners.chan
         ∧ t.journal = journalWith (((List.finRange 16).filter freed).map fun o => ⟨.ownerOut, o.val, some p, 3⟩) s.journal
         ∧ FaultsAsHeard p s t)

/-- R55, R57, R58, R59, R61, R174, R177: the count that brings a running timer to the timeout makes the port ABSENT with
its timer stopped at 0, empties its talk mask and clears its calls; under RELEASE everything it owns is released, channels
before outputs, in ascending index, by STAGE; under REPORT it keeps everything. A timeout written at this boundary is
compared from the next one on (`timeoutCounted`). The mark of the unit taken is the model's (log entry 5). Below the
timeout a running timer's elapsed count rises by 1 at each boundary, and a stopped one stays; either way, and where
PRESENCE_EXPIRY names it, the presence work clears the calls that an ACK_CALL ahead of the expiry at this boundary has
acknowledged (the model's choice between R60 and R174, log entry 28). -/
def Obligations.PresenceExpiryAppliesThePolicy : Prop :=
  (∀ (p : Port) (s : State), NotYetTaken (.presence p) s →
     let owns (c : Chan) : Bool := s.owners.chan[c] == some p
     let ownsOut (o : OutId) : Bool := s.owners.out[o] == some p
     TimesOut p s →
     ∃ t, exec (.presenceExpiry p) s = .next t
       ∧ t.presence = s.presence.set p { present := false, running := false, elapsed := 0 }
       ∧ t.talkMask = s.talkMask.set p 0
       ∧ t.calls = s.calls.set p (Vector.replicate 4 { pending := false, acked := false })
       ∧ (s.settings.policy.get p = .report → t.owners = s.owners ∧ t.journal = s.journal)
       ∧ (s.settings.policy.get p = .release →
           (∀ c : Chan, t.owners.chan[c] = if owns c then none else s.owners.chan[c])
           ∧ (∀ o : OutId, t.owners.out[o] = if ownsOut o then none else s.owners.out[o])
           ∧ t.journal = journalWith
               ((((List.finRange 48).filter owns).map fun c => ⟨.ownerCh, c.val, none, 3⟩)
                 ++ ((List.finRange 16).filter ownsOut).map fun o => ⟨.ownerOut, o.val, none, 3⟩) s.journal)
       ∧ t.clock = clockAtWork s ∧ Marked (.presence p) s t ∧ OnlyConditionsReported s t
       ∧ SameExcept [.presence, .talkMask, .calls, .owners, .journal, .clock, .latch, .faults] s t)
  ∧ ∀ (p : Port) (s : State),
      let r := s.presence.get p
      let calls := s.calls.set p (Vector.ofFn fun k : KeyId =>
        if (s.calls.get p)[k].ending then { pending := false, acked := false } else (s.calls.get p)[k])
      let counted := s.presence.set p { r with elapsed := r.elapsed + 1, held := none }
      (r.running = true → r.elapsed + 1 < timeoutCounted p s →
        workEffect (.presence p) s = (s.withCalls calls).withPresence counted)
      ∧ (r.running = false → workEffect (.presence p) s = s.withCalls calls)
      ∧ (NotYetTaken (.presence p) s → ¬ TimesOut p s → (∃ k : KeyId, (s.calls.get p)[k].ending = true) →
          ∃ t, exec (.presenceExpiry p) s = .next t
            ∧ t.calls = calls ∧ t.presence = (if r.running then counted else s.presence)
            ∧ t.clock = clockAtWork s ∧ Marked (.presence p) s t
            ∧ SameExcept [.presence, .calls, .clock, .latch] s t)

/-! ## Head amplifiers (chapter 5) -/

/-- R74, R75, R76: an accepted SET_GAIN, clamped to 10 to 130 and then rounded down to even, or SET_PAD creates the
channel's pending step at the present setting or retargets the step it has, whose frames waited are kept; the reply
carries the step; neither G, the pad nor E changes. -/
def Obligations.SetGainAndSetPadMakeOrRetargetTheStep : Prop :=
  ∀ (p : Port) (m : Msg) (c : Chan) (s : State), Ready p s → m.arg.toNat = c.val →
    let ch := s.channels[c]
    let asked : Int := ((m.body[0]?.getD 0).setWidth 16).toInt
    let clamped := max 10 (min asked 130)
    let stands : Step := match ch.pending with
      | some st => st
      | none => { gain := ch.gain, pad := ch.pad, waited := 0 }
    (refuseChannel false true p m s = none →
      let st := { stands with gain := if clamped % 2 = 0 then clamped else clamped - 1 }
      ∃ t, exec (.setGain p m) s = .next t
        ∧ Answered p ⟨7, m.tag, if clamped = asked then .done else .clamped, [stepBits st]⟩ [.channels] s t
        ∧ t.channels = vset s.channels c { ch with pending := some st } ∧ FaultsAsHeard p s t)
    ∧ (refuseChannel true true p m s = none →
      let st := { stands with pad := word m 0 % 65536 == 1 }
      ∃ t, exec (.setPad p m) s = .next t
        ∧ Answered p ⟨8, m.tag, .done, [stepBits st]⟩ [.channels] s t
        ∧ t.channels = vset s.channels c { ch with pending := some st } ∧ FaultsAsHeard p s t)

/-- R73, R77, R78, R79, R88, R95: a captured frame has a crossing when a sample is zero or two consecutive samples,
counting the last captured one before the frame, have opposite signs. A frame that has one, and the 60th without one,
applies the pending step; any other only raises its frames waited (`CapturedFrameTaken` says all that a captured frame
does). FORCED_STEP is that unit of the boundary now falling at the 60th frame, taken alone with its own frame. The mark
of the unit taken is the model's (log entry 5). -/
def Obligations.ForcedStepAppliesThePendingStep : Prop :=
  (∀ (last : Sample) (f : SampleFrame), hasCrossing last f = true ↔ HasCrossing last f)
  ∧ (∀ (c : Chan) (s : State),
      let t := captureFrame c s
      CapturedFrameTaken c s.latch.captured[c] s t ∧ SameExcept [.channels, .tracks, .journal, .meters, .faults] s t)
  ∧ ∀ (c : Chan) (f : SampleFrame) (st : Step) (s : State), NotYetTaken (.capture c) s →
      s.channels[c].pending = some st → st.waited = 59 → ¬ HasCrossing s.channels[c].last f →
      ∃ t, exec (.forcedStep c f) s = .next t
        ∧ CapturedFrameTaken c f s t
        ∧ t.latch = { s.latch with captured := vset s.latch.captured c f, taken := .capture c :: s.latch.taken }
        ∧ t.clock = clockAtWork s
        ∧ SameExcept [.channels, .tracks, .journal, .meters, .latch, .clock, .faults] s t

/-- R81, R82, R87: an accepted SET_PHANTOM sets the request and moves the phantom state by the table of R81, sends the
setting and makes a PHANTOM entry by the sender where the request changed or the state came into ON, OFF or SHED. The
count that brings a mute counter to 0 ends a RAMP_UP in ON and a RAMP_DOWN in OFF, with an entry by STAGE, and leaves
any other state. The mark of the unit taken is the model's (log entry 5). A counter above 1 only falls by 1, and one at
0 stays. -/
def Obligations.SetPhantomAndTheMuteCounterMoveTheState : Prop :=
  (∀ (p : Port) (m : Msg) (c : Chan) (s : State), Ready p s → m.arg.toNat = c.val →
     refuseChannel true true p m s = none →
     let ch := s.channels[c]
     let on := word m 0 % 65536 == 1
     let held := s.phantom.banks[bankOf c].state = .holdoff ∨ s.phantom.banks[bankOf c].state = .lockedOut
     ∃ t ch' code, exec (.setPhantom p m) s = .next t
       ∧ Answered p ⟨9, m.tag, code, [phantomBits ch']⟩ [.channels, .journal] s t
       ∧ t.channels = vset s.channels c ch'
       ∧ ch' = { ch with request := on, phantom := ch'.phantom, mute := ch'.mute
                         sent := sentSetting ch.gain ch.pad ch'.phantom }
       ∧ (on = true → ch.phantom = .off → ¬ held → ch'.phantom = .rampUp ∧ ch'.mute = 1800 ∧ code = .done)
       ∧ (on = true → ch.phantom = .off → held → ch'.phantom = .shed ∧ ch'.mute = ch.mute ∧ code = .deferred)
       ∧ (on = true → ch.phantom = .rampDown → ch'.phantom = .rampUp ∧ ch'.mute = 1800 ∧ code = .done)
       ∧ (on = true → ch.phantom = .rampUp ∨ ch.phantom = .on →
           ch'.phantom = ch.phantom ∧ ch'.mute = ch.mute ∧ code = .done)
       ∧ (on = true → ch.phantom = .shed → ch'.phantom = .shed ∧ ch'.mute = ch.mute ∧ code = .deferred)
       ∧ (on = false → ch.phantom = .rampUp ∨ ch.phantom = .on →
           ch'.phantom = .rampDown ∧ ch'.mute = 1800 ∧ code = .done)
       ∧ (on = false → ch.phantom = .shed → ch'.phantom = .off ∧ ch'.mute = ch.mute ∧ code = .done)
       ∧ (on = false → ch.phantom = .off ∨ ch.phantom = .rampDown →
           ch'.phantom = ch.phantom ∧ ch'.mute = ch.mute ∧ code = .done)
       ∧ t.journal = journalWith
           (if ch.request ≠ on ∨ (ch'.phantom ≠ ch.phantom ∧ (ch'.phantom = .on ∨ ch'.phantom = .off ∨ ch'.phantom = .shed))
             then [⟨.phantom, c.val, some p, phantomNews ch'.phantom on⟩] else []) s.journal
       ∧ FaultsAsHeard p s t)
  ∧ (∀ (c : Chan) (s : State), NotYetTaken (.mute c) s →
       let ch := s.channels[c]
       let ends (state : PhState) (t : State) : Prop :=
         t.channels = vset s.channels c
             { ch with phantom := state, mute := 0, sent := sentSetting ch.gain ch.pad state }
           ∧ t.journal = journalWith [⟨.phantom, c.val, none, phantomNews state ch.request⟩] s.journal
       ch.mute = 1 →
       ∃ t, exec (.muteCounterExpiry c) s = .next t
         ∧ (ch.phantom = .rampUp → ends .on t)
         ∧ (ch.phantom = .rampDown → ends .off t)
         ∧ (ch.phantom = .on ∨ ch.phantom = .off ∨ ch.phantom = .shed →
             t.channels = vset s.channels c { ch with mute := 0 } ∧ t.journal = s.journal)
         ∧ t.clock = clockAtWork s ∧ Marked (.mute c) s t
         ∧ SameExcept [.channels, .journal, .clock, .latch] s t)
  ∧ ∀ (c : Chan) (s : State),
      let ch := s.channels[c]
      (1 < ch.mute → workEffect (.mute c) s = s.withChannels (vset s.channels c { ch with mute := ch.mute - 1 }))
      ∧ (ch.mute = 0 → workEffect (.mute c) s = s)

/-- R90: READ_METERS answers the eight channels of a bank as they stand and clears the sending port's records of them. -/
def Obligations.ReadMetersAnswersAndClearsTheSendersRecords : Prop :=
  ∀ (p : Port) (m : Msg) (b : BankId) (s : State), Ready p s → m.body.length = 0 → m.arg.toNat = b.val →
    ∃ t, exec (.readMeters p m) s = .next t
      ∧ Answered p ⟨10, m.tag, .done, (bankWhere b fun _ => true).map (meterBits s p)⟩ [.meters] s t
      ∧ (∀ c : Chan, (t.meters.get p)[c] =
          if c.val / 8 = b.val then { peak := 0, clip := false, sendClip := false } else (s.meters.get p)[c])
      ∧ (∀ q, q ≠ p → t.meters.get q = s.meters.get q)
      ∧ FaultsAsHeard p s t

/-! ## Gain tracking (chapter 6) -/

/-- R96: a rebase sets T to the record's D and A to E; D is what it was and the limited flag clears. -/
def Obligations.RebaseKeepsTheDigitalGain : Prop :=
  ∀ (eff : Int) (t : Track), -60 ≤ t.gain → t.gain ≤ 36 →
    rebased eff t = { t with trim := t.gain, anchor := eff, limited := false }

/-- R98, R100: SET_TRIM clamps the trim to −60 to +36, makes it T, recomputes D and the limited flag, and answers the
record. SET_TRACKING sets the flags of the sender's records of the named channels; a record whose flag goes from ON
to OFF is rebased first; the reply's mask has the flags that changed. -/
def Obligations.SetTrimAndSetTrackingActOnTheSendersRecords : Prop :=
  (∀ (p : Port) (m : Msg) (c : Chan) (s : State), Ready p s → m.arg.toNat = c.val → m.body.length = 1 →
     let asked : Int := ((m.body[0]?.getD 0).setWidth 16).toInt
     let trim := max (-60) (min asked 36)
     let r := withGain s.channels[c].eff { (s.tracks.get p)[c] with trim := trim }
     ∃ t, exec (.setTrim p m) s = .next t
       ∧ Answered p ⟨11, m.tag, if trim = asked then .done else .clamped, [trackBits r]⟩ [.tracks] s t
       ∧ t.tracks = s.tracks.set p (vset (s.tracks.get p) c r)
       ∧ OnlyConditionsReported s t)
  ∧ (∀ (p : Port) (m : Msg) (s : State), Ready p s → refuseSide 48 1 m = none →
       let on := word m 0 / 256 % 4 == 1
       let named (c : Chan) : Bool := decide (m.arg.toNat ≤ c.val ∧ c.val < m.arg.toNat + word m 0 % 64)
       ∃ t body, exec (.setTracking p m) s = .next t
         ∧ IsChanMask (fun c => named c = true ∧ (s.tracks.get p)[c].tracking ≠ on) body
         ∧ Answered p ⟨12, m.tag, .done, body⟩ [.tracks] s t
         ∧ (∀ c : Chan, named c = false → (t.tracks.get p)[c] = (s.tracks.get p)[c])
         ∧ (∀ c : Chan, named c = true → (s.tracks.get p)[c].tracking = true → on = false →
             (t.tracks.get p)[c] = { rebased s.channels[c].eff (s.tracks.get p)[c] with tracking := false })
         ∧ (∀ c : Chan, named c = true → (s.tracks.get p)[c].tracking = false ∨ on = true →
             (t.tracks.get p)[c] = { (s.tracks.get p)[c] with tracking := on })
         ∧ (∀ q, q ≠ p → t.tracks.get q = s.tracks.get q)
         ∧ OnlyConditionsReported s t)

/-- R104, R105: with D = 12s + r the gain function is x times the mantissa of r over 2 to the power 15 − s, rounded half
away from zero and saturated, and it reports whether it saturated; at D = 0 it returns the sample. A result of
exactly −8,388,608 is not reported as saturated (the model's choice, log entry 24). -/
def Obligations.GainFunctionScalesRoundsAndSaturates : Prop :=
  ∀ (x : Sample) (D : Int), -60 ≤ D → D ≤ 36 →
    let octave := D / 12
    let step := D - 12 * octave
    let mantissa : Int := ([32768, 34710, 36766, 38945, 41252, 43697, 46286, 49029, 51934, 55011, 58271, 61723] : List Int).getD
      step.toNat 0
    let exact := roundHalfAway (x.toInt * mantissa) (2 ^ (15 - octave).toNat)
    (gainFunction x D).1.toInt = saturated exact
    ∧ ((gainFunction x D).2 = true ↔ saturated exact ≠ exact)
    ∧ (D = 0 → (gainFunction x D).1 = x)
    ∧ (D ≤ 0 → (gainFunction x D).2 = false)

/-! ## Phantom supply monitor (chapter 7) -/

/-- R111, R112, R114, R118, R121: a completed conversion is the bank's last reading. Below the trip level it takes a
NORMAL bank to HOLDOFF with trip count 1 and a RETRY bank to HOLDOFF, or at the third trip to LOCKED_OUT, and sheds the
bank, with the bank's entry before its channels'; otherwise it has no other effect. A timer it set is not advanced in the
same work. The marks of the units taken are the model's (log entry 5). -/
def Obligations.PhantomReadingTripsTheBank : Prop :=
  ∀ (b : BankId) (code : BitVec 10) (s : State), NotYetTaken .reading s → s.phantom.scan = b →
    let k := s.phantom.banks[b]
    let low := code.toNat < tripLevelInForce s
    let latched (taken : List Work) : Latch := { s.latch with rail := code, taken := taken ++ s.latch.taken }
    let sheds (k' : Bank) (t : State) : Prop :=
      t.phantom.banks = vset s.phantom.banks b k'
        ∧ (∀ c : Chan, t.channels[c] = if c.val / 8 = b.val then shedChannel s.channels[c] else s.channels[c])
        ∧ t.journal = journalWith (shedNews b k' s) s.journal
        ∧ t.latch = latched [.reading, .bank b] ∧ OnlyConditionsReported s t
    ∃ t, exec (.phantomReading b code) s = .next t
      ∧ (¬ low ∨ k.state = .holdoff ∨ k.state = .lockedOut →
          t.phantom.banks = vset s.phantom.banks b { k with last := code.toNat }
          ∧ t.channels = s.channels ∧ t.journal = s.journal ∧ t.latch = latched [.reading] ∧ t.faults = s.faults)
      ∧ (low → k.state = .normal → sheds { state := .holdoff, trips := 1, last := code.toNat, timer := 12000 } t)
      ∧ (low → k.state = .retry → k.trips < 2 →
          sheds { state := .holdoff, trips := k.trips + 1, last := code.toNat, timer := 12000 } t)
      ∧ (low → k.state = .retry → 2 ≤ k.trips →
          sheds { state := .lockedOut, trips := k.trips + 1, last := code.toNat, timer := 0 } t)
      ∧ t.phantom.scan = s.phantom.scan ∧ t.clock = clockAtWork s
      ∧ SameExcept [.phantom, .channels, .journal, .latch, .clock, .faults] s t

/-- R113, R116, R117, R118, R121: the count that ends a holdoff takes the bank to RETRY and retries its channels where
the last reading is at least the trip level plus 16, and restarts the holdoff where it is below; the count that ends a
retry watch takes the bank to NORMAL with trip count 0. The mark of the unit taken is the model's (log entry 5). Before
that a holdoff timer falls by 1 and a retry timer rises by 1 at each boundary, and a bank in NORMAL or LOCKED_OUT has no
timer to advance; a bank's reading is taken before its timer, and a timer that the reading has just set is not advanced.
-/
def Obligations.HoldoffAndRetryWatchEnd : Prop :=
  (∀ (b : BankId) (s : State), NotYetTaken (.bank b) s → s.phantom.scan ≠ b ∨ .reading ∈ s.latch.taken →
     let k := s.phantom.banks[b]
     (k.state = .holdoff → k.timer = 1 →
       ∃ t, exec (.holdoffEnd b) s = .next t
         ∧ (tripLevelInForce s + 16 ≤ k.last →
             let k' := { k with state := .retry, timer := 0 }
             t.phantom.banks = vset s.phantom.banks b k'
             ∧ (∀ c : Chan, t.channels[c] = if c.val / 8 = b.val then retriedChannel s.channels[c] else s.channels[c])
             ∧ t.journal = journalWith (retryNews none b k' s) s.journal ∧ OnlyConditionsReported s t)
         ∧ (k.last < tripLevelInForce s + 16 →
             t.phantom.banks = vset s.phantom.banks b { k with timer := 12000 }
             ∧ t.channels = s.channels ∧ t.journal = s.journal ∧ t.faults = s.faults)
         ∧ t.phantom.scan = s.phantom.scan ∧ t.clock = clockAtWork s ∧ Marked (.bank b) s t
         ∧ SameExcept [.phantom, .channels, .journal, .latch, .clock, .faults] s t)
     ∧ (k.state = .retry → k.timer = 59999 →
       let k' : Bank := { k with state := .normal, trips := 0, timer := 0 }
       ∃ t, exec (.retryWatchEnd b) s = .next t
         ∧ t.phantom.banks = vset s.phantom.banks b k'
         ∧ t.journal = journalWith [⟨.bank, b.val, none, bankNews k'⟩] s.journal
         ∧ t.phantom.scan = s.phantom.scan ∧ t.clock = clockAtWork s ∧ Marked (.bank b) s t
         ∧ OnlyConditionsReported s t
         ∧ SameExcept [.phantom, .journal, .latch, .clock, .faults] s t))
  ∧ ∀ (b : BankId) (s : State),
      let k := s.phantom.banks[b]
      let standsAt (n : Nat) : State :=
        s.withPhantom { s.phantom with banks := vset s.phantom.banks b { k with timer := n } }
      (s.phantom.scan = b → .reading ∉ s.latch.taken →
        workEffect (.bank b) s = workEffect (.bank b) (takeWork s .reading))
      ∧ (s.phantom.scan ≠ b ∨ .reading ∈ s.latch.taken →
          (.bank b ∈ s.latch.taken → workEffect (.bank b) s = s)
          ∧ (.bank b ∉ s.latch.taken → k.state = .holdoff → 1 < k.timer →
              workEffect (.bank b) s = standsAt (k.timer - 1))
          ∧ (.bank b ∉ s.latch.taken → k.state = .retry → k.timer < 59999 →
              workEffect (.bank b) s = standsAt (k.timer + 1))
          ∧ (k.state = .normal ∨ k.state = .lockedOut → workEffect (.bank b) s = s))

/-- R119: an accepted PHANTOM_RESET takes a bank in HOLDOFF or LOCKED_OUT to RETRY with trip count 0 and timer 0 and
retries its channels, the BANK entry by the sender; a bank in NORMAL or RETRY is left as it is. The reply describes the
bank as the request leaves it. -/
def Obligations.PhantomResetRetriesAHeldBank : Prop :=
  ∀ (p : Port) (m : Msg) (b : BankId) (s : State), Ready p s → m.arg.toNat = b.val → refusePhantomReset p m s = none →
    let k := s.phantom.banks[b]
    ((k.state = .holdoff ∨ k.state = .lockedOut) →
      let k' := { k with state := .retry, trips := 0, timer := 0 }
      ∃ t, exec (.phantomReset p m) s = .next t
        ∧ Answered p ⟨14, m.tag, .done, [bankBits k']⟩ [.phantom, .channels, .journal] s t
        ∧ t.phantom = { s.phantom with banks := vset s.phantom.banks b k' }
        ∧ (∀ c : Chan, t.channels[c] = if c.val / 8 = b.val then retriedChannel s.channels[c] else s.channels[c])
        ∧ t.journal = journalWith (retryNews (some p) b k' s) s.journal ∧ OnlyConditionsReported s t)
    ∧ (k.state = .normal ∨ k.state = .retry →
      ∃ t, exec (.phantomReset p m) s = .next t
        ∧ Answered p ⟨14, m.tag, .done, [bankBits k]⟩ [] s t ∧ FaultsAsHeard p s t)

/-! ## Journal and settings (chapter 8) -/

/-- R130: READ_CHANGES answers an up-to-date desk with the summary word alone, a desk at most the journal's length behind
with the oldest entries it lacks, at most 7, and the summary, and any other desk with TOO_OLD and the whole current
generation. That a message in progress stays is the model's choice (log entry 23). -/
def Obligations.ReadChangesAnswersWhatTheJournalHolds : Prop :=
  ∀ (p : Port) (m : Msg) (s : State), Ready p s → refuseChanges m s = none →
    let cur := s.journal.gen
    let behind := (cur.toNat + 4294967296 - generationNamed m) % 4294967296
    let n := s.journal.entries.length
    let given := (s.journal.entries.drop (n - behind)).take 7
    let words (e : Entry) : List Payload :=
      [0#1 ++ e.gen.setWidth 16 ++ BitVec.ofNat 2 (partyCode e.author) ++ e.subject ++ BitVec.ofNat 3 (entryKindNo e.kind),
       0#14 ++ e.value]
    let summary : Payload := 0#10 ++ cur.setWidth 16 ++ BitVec.ofBool (decide (7 < behind)) ++ BitVec.ofNat 3 given.length
    ∃ t, exec (.readChanges p m) s = .next t
      ∧ (behind ≤ n → Answered p ⟨16, m.tag, .done, given.flatMap words ++ [summary]⟩ [] s t)
      ∧ (n < behind →
          Answered p ⟨16, m.tag, .tooOld, [0#14 ++ cur.setWidth 16, 0#14 ++ cur.extractLsb' 16 16]⟩ [] s t)
      ∧ FaultsAsHeard p s t

/-- R61, R112, R133, R134, R135, R155, R169, R190: a write of a timeout, a policy, the trip code, the talk source, the
talk level or the duck depth replaces the item, clamped where it has a range, makes its SETTING entry, and answers the
stored value and the generation; nothing else changes at once, but that the running timer of a port whose timeout is
written keeps, for a count at this boundary that is still to come, the code it began with. That a row's boundary is the
one now falling is the model's choice (log entry 27). -/
def Obligations.PlainSettingWritesStoreTheirItem : Prop :=
  ∀ (p : Port) (m : SettingMsg) (s : State), Ready p s →
    let v := (m.body[0]?.getD 0).setWidth 16
    let heardAs := s.presence.set p { present := true, running := true, elapsed := 0 }
    let storesWith (presence : PerPort Presence) (c : Instr) (i : Item) (code : Code) (stored : BitVec 16)
        (after : Settings) : Prop :=
      refuseItem i m = none →
      ∃ t, exec c s = .next t
        ∧ Replied p ⟨18, m.tag, code, settingReply (itemNo i) stored s.journal⟩ s t
        ∧ SameExcept [.presence, .lanes, .faults, .settings, .journal] s t
        ∧ t.presence = presence ∧ t.settings = after
        ∧ t.journal = journalWith [⟨.setting, itemNo i, some p, stored⟩] s.journal ∧ FaultsAsHeard p s t
    let stores := storesWith heardAs
    let level := max (-60) (min v.toInt 36)
    let depth := max 0 (min v.toInt 60)
    (∀ q,
      let r := heardAs.get q
      let keeps := heardAs.set q { r with held := some (r.held.getD (s.settings.timeout.get q)) }
      storesWith (if r.running = true ∧ .presence q ∉ s.latch.taken then keeps else heardAs)
        (.writePresenceTimeout p q m) (.timeout q) .done v
        { s.settings with timeout := s.settings.timeout.set q (v.setWidth 2) })
    ∧ (∀ q, stores (.writePresencePolicy p q m) (.policy q) .done v
        { s.settings with policy := s.settings.policy.set q (if v = 0 then .release else .report) })
    ∧ stores (.writePhantomTrip p m) .trip .done v { s.settings with trip := v.setWidth 2 }
    ∧ (∀ c : Chan, v.toNat = c.val → stores (.writeTalkSource p m) .talkSource .done v { s.settings with talkSource := c })
    ∧ stores (.writeStageTalkLevel p m) .talkLevel (if level = v.toInt then .done else .clamped) (BitVec.ofInt 16 level)
        { s.settings with talkLevel := level }
    ∧ stores (.writeDuckDepth p m) .duckDepth (if depth = v.toInt then .done else .clamped) (BitVec.ofInt 16 depth)
        { s.settings with duckDepth := depth }

/-- R31, R32, R35, R135, R190: an accepted write of CLOCK_PRIORITY replaces the list whole and re-evaluates the selection
in the same event; the entries beyond the length are stored as zero. -/
def Obligations.ClockPriorityWriteReselectsTheSource : Prop :=
  ∀ (p : Port) (m : SettingMsg) (order : List Port) (s : State), Ready p s → refuseItem .clockPriority m = none →
    let v := word ⟨m.tag, 0, m.body⟩ 0 % 65536
    let entry (i : Nat) : BitVec 2 := BitVec.ofNat 2 ((order[i]?.map portNo).getD 0)
    let stored : BitVec 16 := 0#7 ++ entry 2 ++ entry 1 ++ entry 0 ++ BitVec.ofNat 3 order.length
    order.map portNo = priorityEntries v →
    ∃ t, exec (.writeClockPriority p m) s = .next t
      ∧ Answered p ⟨18, m.tag, .done, settingReply 0 stored s.journal⟩ [.settings, .journal, .clock] s t
      ∧ t.settings = { s.settings with clockPriority := order }
      ∧ t.journal = journalWith [⟨.setting, 0, some p, stored⟩] s.journal
      ∧ t.clock.source = firstGood order s.clock ∧ t.clock.monitors = s.clock.monitors
      ∧ (t.clock.switched = true ↔ s.clock.switched = true ∨ t.clock.source ≠ s.clock.source)
      ∧ OnlyConditionsReported s t

/-- R8, R12, R25, R26, R49, R135, R142: an accepted write of PATH_ENABLE disables each path whose flag it clears and takes
each DISABLED path whose flag it sets to DARK; a port that loses its last carrying path goes OFFLINE in the same event, the
outputs are re-evaluated, and the reply of a sender that goes OFFLINE is lost. A port that stays ONLINE keeps its clock
monitor, but for a reference path that is disabled: the reference moves to the other path with a fresh interval, which
for the selected port is a switch. The paths are handled in the order of log entry 15, within the one event (the
model's choice). That a message in progress of a sender that stays ONLINE stays too is the model's choice (log entry
23). -/
def Obligations.PathEnableWriteDisablesAndEnablesPaths : Prop :=
  ∀ (p : Port) (m : SettingMsg) (s : State), Ready p s → refuseItem .pathEnable m = none →
    let v := word ⟨m.tag, 0, m.body⟩ 0
    let flag (q : Port) (x : PathName) : Bool := v.testBit (2 * portNo q + match x with | .a => 0 | .b => 1)
    let was (q : Port) (x : PathName) : Bool := (s.settings.pathEnable.get q).get x
    let stored : BitVec 16 := 0#10 ++ BitVec.ofNat 6 v
    ∃ t, exec (.writePathEnable p m) s = .next t
      ∧ t.settings = { s.settings with pathEnable := .of fun q => .of (flag q) }
      ∧ t.journal = journalWith [⟨.setting, 1, some p, stored⟩] s.journal
      ∧ (∀ q x, (t.paths.get q).get x =
          if was q x && !flag q x then bareReceiver .disabled .hunting
          else if !was q x && flag q x && ((s.paths.get q).get x).state == .disabled then bareReceiver .dark .hunting
          else (s.paths.get q).get x)
      ∧ (∀ q, online s q = true → online t q = false →
          t.merges.get q = offlineForm (s.merges.get q) ∧ t.lanes.get q = { asm := none, queue := [], sent := 0 }
          ∧ t.talkMask.get q = 0
          ∧ t.clock.monitors.get q =
              { s.clock.monitors.get q with state := .unusable, run := 0, ref := none, interval := .none }
          ∧ t.clock.source = firstGood s.settings.clockPriority t.clock)
      ∧ (OutputsOk s → ∀ i : OutId, t.outputs[i] = followOutput s t s.outputs[i])
      ∧ (∀ q, online s q = true → online t q = true →
          let k := s.clock.monitors.get q
          (∀ x, k.ref = some x → Carrying q x s → was q x = true → flag q x = false →
            let y := otherPath x
            t.clock.monitors.get q =
              { k with ref := some y, interval := if (s.signal.get q).get y then .awaiting else .none })
          ∧ ((∀ x, k.ref = some x → ¬ (Carrying q x s ∧ was q x = true ∧ flag q x = false)) → t.clock.monitors.get q = k))
      ∧ ((∀ q, online t q = online s q) → t.clock.source = s.clock.source
          ∧ (t.clock.switched = true ↔ s.clock.switched = true ∨
              ∃ q x, s.clock.source = some q ∧ online s q = true ∧ (s.clock.monitors.get q).ref = some x
                ∧ Carrying q x s ∧ was q x = true ∧ flag q x = false))
      ∧ (∀ q, online t q = online s q →
          t.merges.get q = s.merges.get q ∧ t.talkMask.get q = s.talkMask.get q
          ∧ (t.clock.monitors.get q).state = (s.clock.monitors.get q).state
          ∧ (q ≠ p → t.lanes.get q = s.lanes.get q))
      ∧ (online t p = true → t.lanes.get p =
          { s.lanes.get p with
            queue := (s.lanes.get p).queue ++ [⟨18, m.tag, .done, settingReply 1 stored s.journal⟩] })
      ∧ Heard p s t ∧ OnlyConditionsReported s t
      ∧ SameExcept [.presence, .lanes, .faults, .settings, .journal, .paths, .merges, .clock, .talkMask, .outputs] s t

/-- R165, R173, R190: an accepted write of KEY_CONFIG disables the key and clears its calls where the flag is clear, arms
a DISABLED key where it is set, turns the toggle OFF where the mode of an enabled key changes, and clears the call of
each port removed from the mask. The debounced level and stability count stay. -/
def Obligations.KeyConfigWriteActsOnTheKeyAndItsCalls : Prop :=
  ∀ (p : Port) (k : KeyId) (m : SettingMsg) (s : State), Ready p s → refuseItem (.key k) m = none →
    let v := word ⟨m.tag, 0, m.body⟩ 0
    let old := s.settings.keys[k]
    let new : KeyConfig := { enabled := v.testBit 0, latch := v.testBit 1, ports := .of fun q => v.testBit (2 + portNo q) }
    let r := s.keys[k]
    let stored : BitVec 16 := 0#11 ++ BitVec.ofNat 5 v
    ∃ t, exec (.writeKeyConfig p k m) s = .next t
      ∧ Answered p ⟨18, m.tag, .done, settingReply (9 + k.val) stored s.journal⟩ [.settings, .journal, .keys, .calls] s t
      ∧ t.settings = { s.settings with keys := vset s.settings.keys k new }
      ∧ t.journal = journalWith [⟨.setting, 9 + k.val, some p, stored⟩] s.journal
      ∧ t.keys = vset s.keys k
          (if new.enabled = false then { r with state := .disabled, toggle := false }
           else if r.state = .disabled then { r with state := .arming, toggle := false }
           else if new.latch ≠ old.latch then { r with toggle := false }
           else r)
      ∧ (∀ q, (t.calls.get q)[k] =
          if new.enabled = false ∨ (old.ports.get q = true ∧ new.ports.get q = false) then
            { pending := false, acked := false }
          else (s.calls.get q)[k])
      ∧ (∀ q (j : KeyId), j ≠ k → (t.calls.get q)[j] = (s.calls.get q)[j])
      ∧ FaultsAsHeard p s t

/-- R185, R186, R187, R190: an accepted write of an ALARM_MAP item re-evaluates both lines at once from the new map, and
starts and stops no stretch; the count that brings a stretch timer to 0 leaves the line driven only by a mapped
condition that is active. The mark of the unit taken is the model's (log entry 5). A timer above 1 only falls by 1, and
one at 0 stays. -/
def Obligations.AlarmLinesFollowTheMapAndTheStretchTimers : Prop :=
  (∀ (p : Port) (f : FaultKind) (m : SettingMsg) (s : State), Ready p s → refuseItem (.alarm f) m = none →
     let v := (m.body[0]?.getD 0).setWidth 16
     let line : Option Line := if v = 1 then some .line0 else if v = 2 then some .line1 else none
     ∃ t, exec (.writeAlarmMap p f m) s = .next t
       ∧ Answered p ⟨18, m.tag, .done, settingReply (16 + (faultNo f).val) v s.journal⟩ [.settings, .journal] s t
       ∧ t.settings = { s.settings with alarmMap := vset s.settings.alarmMap (faultNo f) line }
       ∧ t.journal = journalWith [⟨.setting, 16 + (faultNo f).val, some p, v⟩] s.journal
       ∧ (∀ l, t.faults.driven.get l = true ↔ 0 < t.faults.stretch.get l ∨
           ∃ (k : FaultKind) (q : Port), t.settings.alarmMap[faultNo k] = some l ∧
             (t.faults.active.get q).getLsbD (faultNo k).val = true)
       ∧ t.faults.stretch = s.faults.stretch
       ∧ t.faults.sticky = (heard p s).faults.sticky ∧ t.faults.active = (heard p s).faults.active)
  ∧ (∀ (l : Line) (s : State), NotYetTaken (.stretch l) s → s.faults.stretch.get l = 1 →
       ∃ t, exec (.stretchTimerExpiry l) s = .next t
         ∧ (t.faults.driven.get l = true ↔ ∃ (k : FaultKind) (p : Port),
             s.settings.alarmMap[faultNo k] = some l ∧ (s.faults.active.get p).getLsbD (faultNo k).val = true)
         ∧ t.faults.stretch = s.faults.stretch.set l 0
         ∧ t.faults.sticky = s.faults.sticky ∧ t.faults.active = s.faults.active
         ∧ t.clock = clockAtWork s ∧ Marked (.stretch l) s t
         ∧ SameExcept [.faults, .clock, .latch] s t)
  ∧ ∀ (l : Line) (s : State),
      let n := s.faults.stretch.get l
      (n = 0 → workEffect (.stretch l) s = s)
      ∧ (1 < n →
          let t := workEffect (.stretch l) s
          t.faults.stretch = s.faults.stretch.set l (n - 1)
            ∧ t.faults.sticky = s.faults.sticky ∧ t.faults.active = s.faults.active
            ∧ (∀ j, t.faults.driven.get j = lineDriven t j) ∧ t.faults.driven.get l = true
            ∧ SameExcept [.faults] s t)

/-! ## Outputs (chapter 9) -/

/-- R148, R149, R150, R151: an accepted SET_OUTPUT installs the setting whole and places the output afresh: SILENT with no
primary, PRIMARY with an available one, and otherwise as its action says; it makes an OUTPUT entry by the sender and
leaves the weights. Of a source that is NONE the port bits are 3 (R189) and the channel bits a free value (log entry
3). -/
def Obligations.SetOutputPlacesTheOutputAfresh : Prop :=
  ∀ (p : Port) (m : Msg) (i : OutId) (s : State), Ready p s → m.arg.toNat = i.val → refuseOutput p m s = none →
    let v : BitVec 16 := (m.body[0]?.getD 0).setWidth 16
    let source (present : Bool) (port : BitVec 2) (channel : BitVec 4) : Option Source :=
      if present then some ⟨if port = 0 then .p0 else if port = 1 then .p1 else .p2, channel.toFin⟩ else none
    let primary := source (v.getLsbD 0) (v.extractLsb' 1 2) (v.extractLsb' 3 4)
    let backup := source (v.getLsbD 7) (v.extractLsb' 8 2) (v.extractLsb' 10 4)
    let action : FailAction := if v.extractLsb' 14 2 = 0 then .mute else if v.extractLsb' 14 2 = 1 then .backup else .hold
    let up := available s primary
    let failed := primary.isSome && !up && action != .hold
    let sel : Selection :=
      if primary = none then .silent
      else if up = true ∨ action = .hold then .primary
      else if action = .backup ∧ available s backup = true then .backup else .silent
    let o := s.outputs[i]
    let o' := { o with primary := primary, backup := backup, action := action, sel := sel, failed := failed
                       holdoff := if failed then 12000 else 0, asked := v }
    let body : Payload := 0#9 ++ (s.journal.gen + 1).setWidth 16 ++ BitVec.ofBool (available s backup) ++ BitVec.ofBool up
      ++ BitVec.ofBool failed ++ BitVec.ofNat 2 (selectionNo sel)
    ∃ t setting, exec (.setOutput p m) s = .next t
      ∧ Answered p ⟨21, m.tag, .done, [body]⟩ [.outputs, .journal] s t
      ∧ t.outputs = vset s.outputs i o'
      ∧ t.journal = journalWith [⟨.output, i.val, some p, setting⟩] s.journal
      ∧ (∀ j, j = 0 ∨ j = 7 ∨ j = 14 ∨ j = 15 ∨ (v.getLsbD 0 = true ∧ j < 7) ∨ (v.getLsbD 7 = true ∧ 7 < j ∧ j < 14) →
          setting.getLsbD j = v.getLsbD j)
      ∧ (v.getLsbD 0 = false → setting.extractLsb' 1 2 = 3) ∧ (v.getLsbD 7 = false → setting.extractLsb' 8 2 = 3)
      ∧ OnlyConditionsReported s t

/-- R141 to R146: a source is available while its port is ONLINE and its flag is set in the mask in force, and NONE
never is; an output follows its sources, the primary's change before the backup's; the boundary that brings a return
holdoff to 0 while the primary is available puts the output back on PRIMARY with its flag clear. The mark of the unit
taken is the model's (log entry 5). Before that the holdoff falls by 1 at each boundary at which the flag is set and the
primary available, and stands otherwise. -/
def Obligations.OutputFollowsItsSourcesAndItsHoldoff : Prop :=
  ((∀ (s : State) (src : Source),
     available s (some src) = true ↔
       (Carrying src.port .a s ∨ Carrying src.port .b s) ∧ (s.merges.get src.port).mask.getLsbD src.ch.val = true)
   ∧ (∀ s, available s none = false)
   ∧ ∀ (s t : State) (o : Output),
     let lost := available s o.primary = true ∧ available t o.primary = false
     let backupLost := available s o.backup = true ∧ available t o.backup = false
     let backupBack := available s o.backup = false ∧ available t o.backup = true
     let spare := available t o.backup = true
     (¬ lost → ¬ backupLost → ¬ backupBack → followOutput s t o = o)
     ∧ (lost → o.sel = .primary → o.action = .mute →
         followOutput s t o = { o with sel := .silent, failed := true, holdoff := 12000 })
     ∧ (lost → o.sel = .primary → o.action = .backup →
         followOutput s t o = { o with sel := if spare then .backup else .silent, failed := true, holdoff := 12000 })
     ∧ (lost → o.sel = .primary → o.action = .hold →
         followOutput s t o = { o with failed := false, holdoff := 0 })
     ∧ (lost → o.sel = .backup → o.action = .backup →
         followOutput s t o =
           { o with sel := if backupLost then .silent else .backup, failed := true, holdoff := 12000 })
     ∧ (lost → o.sel = .silent → o.failed = true →
         followOutput s t o =
           { o with sel := if o.action = .backup ∧ spare then .backup else .silent, holdoff := 12000 })
     ∧ (¬ lost → backupLost → followOutput s t o = if o.sel = .backup then { o with sel := .silent } else o)
     ∧ (¬ lost → backupBack →
         followOutput s t o =
           if o.sel = .silent ∧ o.failed = true ∧ o.action = .backup ∧ available t o.primary = false then
             { o with sel := .backup }
           else o))
  ∧ (∀ (o : OutId) (s : State), NotYetTaken (.holdoff o) s →
       let r := s.outputs[o]
       r.failed = true → available s r.primary = true → r.holdoff = 1 →
       ∃ t, exec (.outputHoldoffEnd o) s = .next t
         ∧ t.outputs = vset s.outputs o { r with sel := .primary, failed := false, holdoff := 0 }
         ∧ t.clock = clockAtWork s ∧ Marked (.holdoff o) s t ∧ OnlyConditionsReported s t
         ∧ SameExcept [.outputs, .clock, .latch, .faults] s t)
  ∧ ∀ (o : OutId) (s : State),
      let r := s.outputs[o]
      (r.failed = true → available s r.primary = true → 1 < r.holdoff →
        workEffect (.holdoff o) s = s.withOutputs (vset s.outputs o { r with holdoff := r.holdoff - 1 }))
      ∧ (r.failed = false ∨ available s r.primary = false → workEffect (.holdoff o) s = s)

/-- R155, R156, R157, R158: an output sample is the programme, weighted by w_p and w_b and scaled by the duck factor over
480 times 32768 and rounded half away from zero, plus the desk talk of the ports whose mask includes the output and whose
talk-valid is set, saturated. -/
def Obligations.OutputSampleMixesProgrammeAndTalk : Prop :=
  ∀ (s : State) (i : OutId) (o : Output) (j : Fin 8), o.wp + o.wb ≤ 480 → o.duck ≤ 480 →
    0 ≤ s.settings.duckDepth → s.settings.duckDepth ≤ 60 →
    let heardAt (src : Option Source) : Int := match src with
      | some x => (((s.latch.handoff.get x.port).ret[x.ch])[j]).toInt
      | none => 0
    let depth := s.settings.duckDepth
    let g := roundHalfAway (([32768, 61723, 58271, 55011, 51934, 49029, 46286, 43697, 41252, 38945, 36766, 34710] : List Int).getD
      (depth % 12).toNat 0) (2 ^ ((depth + 11) / 12).toNat)
    let factor := 32768 - (o.duck * (32768 - g)) / 480
    let programme := roundHalfAway ((heardAt o.primary * o.wp + heardAt o.backup * o.wb) * factor) 15728640
    let talk (p : Port) : Int :=
      if (s.talkMask.get p).getLsbD i.val = true ∧ (s.merges.get p).talkValid = true then
        ((s.latch.handoff.get p).talk[j]).toInt else 0
    (outputSample s i o j).toInt = saturated (programme + (talk .p0 + talk .p1 + talk .p2))

/-- R4, R18, R55, R73, R82, R113, R146, R162, R186: a boundary takes every unit of work, whatever its order names and
whatever was taken ahead; a unit that is taken has its effect, once. R140, R153, R154: at the end of a boundary each
output plays 8 samples computed from the state that the boundary's work leaves, sample j after the weights have taken j
steps: w_p rises while the selection is PRIMARY and falls otherwise, w_b likewise for BACKUP, the duck weight while a talk
mask includes the output; the output keeps the weights of the eighth step. Beside the outputs' weights and frames, the period gains, the conversion in progress and the marks of the
boundary, the state is what the work leaves. The order of the work is the command's (log entry 4). -/
def Obligations.BoundaryPlaysEveryOutputFromWhatItsWorkLeaves : Prop :=
  ∀ (i : BoundaryInput) (s : State), s.rstn = true →
    let left := afterWork i (workOf i) s
    (∀ w : Work, w ∈ left.latch.taken)
    ∧ (∀ (w : Work) (u : State), takeWork u w =
        if w ∈ u.latch.taken then u
        else
          let v := workEffect w u
          v.withLatch { v.latch with taken := w :: v.latch.taken })
    ∧ ∃ t, exec (.stageFrameBoundary i) s = .next t
      ∧ (∀ o : OutId,
          let r := left.outputs[o]
          let talked := (left.talkMask.p0 ||| left.talkMask.p1 ||| left.talkMask.p2).getLsbD o.val
          let after (k : Nat) : Output :=
            { r with
              wp := weightAfter (r.sel == .primary) r.wp k, wb := weightAfter (r.sel == .backup) r.wb k
              duck := weightAfter talked r.duck k }
          t.outputs[o] =
            { after 8 with frame := Vector.ofFn fun j : Fin 8 => outputSample left o (after (j.val + 1)) j })
      ∧ (∀ p (c : Chan), (t.tracks.get p)[c] =
          let r := (left.tracks.get p)[c]
          { r with period := r.gain })
      ∧ t.phantom.banks = left.phantom.banks
      ∧ SameExcept [.outputs, .tracks, .phantom, .latch] left t

/-- R160, R71, R123, R132, R101, R184 are reads: each answers the state as it stands, in the words of chapter 12, and
changes nothing but presence and its port's reply queue. In READ_OUTPUTS the channel bits of a source that is NONE are a
free value (log entry 3). -/
def Obligations.ReadsOfTablesAnswerTheStateAsItStands : Prop :=
  ∀ (p : Port) (m : Msg) (s : State), Ready p s →
    let first := m.arg.toNat
    let chans : List Chan := (List.finRange 48).filter fun c => decide (first ≤ c.val ∧ c.val < first + word m 0 % 64)
    let outs : List OutId := (List.finRange 16).filter fun o => decide (first ≤ o.val ∧ o.val < first + word m 0 % 64)
    let owners := s.owners.chan.toList ++ s.owners.out.toList
    (refuseLength 0 m = none →
      ∃ t body, exec (.readOwners p m) s = .next t ∧ Answered p ⟨6, m.tag, .done, body⟩ [] s t ∧ FaultsAsHeard p s t
        ∧ body.length = 6
        ∧ (∀ i, i < 75 → (body[i / 15]?.getD 0).toNat / 4 ^ (i % 15) % 4 =
            if i < 64 then partyCode (owners[i]?.getD none) else 0)
        ∧ body[5]?.getD 0 =
            0#27 ++ BitVec.ofBool t.presence.p2.present ++ BitVec.ofBool t.presence.p1.present
              ++ BitVec.ofBool t.presence.p0.present)
    ∧ (refuseSide 15 2 m = none → ∀ q, word m 0 / 256 % 4 = portNo q →
      ∃ t, exec (.readTracking p m) s = .next t
        ∧ Answered p ⟨13, m.tag, .done, chans.map fun c => trackBits (s.tracks.get q)[c]⟩ [] s t ∧ FaultsAsHeard p s t)
    ∧ (refuseLength 0 m = none →
      ∃ t, exec (.readPhantom p m) s = .next t
        ∧ Answered p ⟨15, m.tag, .done, s.phantom.banks.toList.map bankBits⟩ [] s t ∧ FaultsAsHeard p s t)
    ∧ (refuseRange 47 14 m = none →
      ∃ t, exec (.readChannels p m) s = .next t
        ∧ Answered p ⟨17, m.tag, .done, chans.map (channelBits s) ++ [generationBits s.journal.gen]⟩ [] s t
        ∧ FaultsAsHeard p s t)
    ∧ (refuseRange 15 5 m = none →
      ∃ t, exec (.readOutputs p m) s = .next t
        ∧ Answered p ⟨22, m.tag, .done, outs.flatMap (outputBits s)⟩ [] s t ∧ FaultsAsHeard p s t)
    ∧ (refuseLength 0 m = none →
      ∃ t, exec (.readFaults p m) s = .next t ∧ FaultsAsHeard p s t
        ∧ Answered p ⟨26, m.tag, .done,
            [0#6 ++ t.faults.active.get p ++ t.faults.sticky.get p,
             0#2 ++ BitVec.ofNat 13 t.faults.stretch.line1 ++ BitVec.ofBool t.faults.driven.line1
               ++ BitVec.ofNat 13 t.faults.stretch.line0 ++ BitVec.ofBool t.faults.driven.line0]⟩ [] s t)

/-- R36, R137: READ_CLOCK answers the clock, the paths and the merge counts, READ_SETTINGS the 28 stored items two to a
word and the generation, each as it stands; neither changes anything but presence and its port's reply queue. -/
def Obligations.ReadClockAndReadSettingsAnswerTheStateAsItStands : Prop :=
  ∀ (p : Port) (m : Msg) (s : State), Ready p s → refuseLength 0 m = none →
    let path (q : Port) (x : PathName) : BitVec 3 := BitVec.ofNat 3 (pathStateNo ((s.paths.get q).get x).state)
    let entry (i : Nat) : BitVec 2 := BitVec.ofNat 2 ((s.settings.clockPriority[i]?.map portNo).getD 0)
    let word1 : Payload := 0#1 ++ path .p2 .b ++ path .p2 .a ++ path .p1 .b ++ path .p1 .a ++ path .p0 .b ++ path .p0 .a
      ++ entry 2 ++ entry 1 ++ entry 0 ++ BitVec.ofNat 3 s.settings.clockPriority.length
      ++ BitVec.ofNat 2 (partyCode s.clock.source)
    let monitor (q : Port) : Payload :=
      let k := s.clock.monitors.get q
      BitVec.ofNat 2 (pathCode k.ref) ++ BitVec.ofNat 4 k.run ++ BitVec.ofNat 2 (clockStateNo k.state)
        ++ BitVec.ofNat 22 k.last
    let counts (q : Port) : List Payload :=
      let g := s.merges.get q
      [g.lates.setWidth 14 ++ g.slips, g.resyncs.setWidth 14 ++ g.dups]
    let upper (q : Port) : BitVec 6 :=
      let g := s.merges.get q
      BitVec.ofNat 2 (pathCode g.lastPath) ++ g.resyncs.extractLsb' 14 2 ++ g.lates.extractLsb' 14 2
    let item (i : Nat) : BitVec 15 := match items[i]? with
      | some n => (storedForm s.settings n).setWidth 15
      | none => 0
    (∃ t, exec (.readClock p m) s = .next t ∧ FaultsAsHeard p s t
      ∧ Answered p ⟨20, m.tag, .done,
          [word1, monitor .p0, monitor .p1, monitor .p2] ++ counts .p0 ++ counts .p1 ++ counts .p2
            ++ [0#12 ++ upper .p2 ++ upper .p1 ++ upper .p0]⟩ [] s t)
    ∧ ∃ t, exec (.readSettings p m) s = .next t ∧ FaultsAsHeard p s t
      ∧ Answered p ⟨19, m.tag, .done,
          ((List.range 14).map fun w => item (2 * w + 1) ++ item (2 * w)) ++ [generationBits s.journal.gen]⟩ [] s t

/-! ## Talkback (chapter 10) -/

/-- R175, R171, R172, R174: TALK replaces the sender's talk mask whole and answers it with the talk-valid in force;
ACK_CALL marks a pending call of a PRESSED key, clears that of any other key, leaves a clear entry, and answers the four
entries of the sender. A call marked while the sender's expiry falls at this boundary is ending: the presence work of
PresenceExpiryAppliesThePolicy clears it (the model's choice, log entry 28). -/
def Obligations.TalkAndAckCallActOnTheSendersOwnTables : Prop :=
  ∀ (p : Port) (m : Msg) (s : State), Ready p s →
    (refuseLength 1 m = none →
      let mask := (m.body[0]?.getD 0).setWidth 16
      ∃ t, exec (.talk p m) s = .next t
        ∧ Answered p ⟨23, m.tag, .done, [0#13 ++ BitVec.ofBool (s.merges.get p).talkValid ++ mask]⟩ [.talkMask] s t
        ∧ t.talkMask = s.talkMask.set p mask ∧ FaultsAsHeard p s t)
    ∧ ∀ k : KeyId, m.body.length = 0 → m.arg.toNat = k.val →
      let e := (s.calls.get p)[k]
      let e' : Call :=
        if e.pending = false then e
        else if s.keys[k].state = .pressed then
          { pending := true, acked := true
            ending := e.ending || decide (.presence p ∉ s.latch.taken ∧ TimesOut p s) }
        else { pending := false, acked := false }
      ∃ t, exec (.ackCall p m) s = .next t
        ∧ t.calls = s.calls.set p (vset (s.calls.get p) k e')
        ∧ (let entry (j : KeyId) : BitVec 2 :=
             BitVec.ofBool (t.calls.get p)[j].acked ++ BitVec.ofBool (t.calls.get p)[j].pending
           Answered p ⟨24, m.tag, .done, [0#22 ++ entry 3 ++ entry 2 ++ entry 1 ++ entry 0]⟩ [.calls] s t)
        ∧ FaultsAsHeard p s t

/-- R162, R163, R164, R170, R171: the 24th differing sample in a row changes the debounced level. A press takes a
RELEASED key to PRESSED, turns a LATCH key's toggle and raises a call at each PRESENT port of the mask, and has no
effect in another state; a release takes ARMING and PRESSED to RELEASED, and clears the acknowledged calls of a PRESSED
key. The mark of the unit taken is the model's (log entry 5). Before that a differing sample raises the stability count
by 1 and an equal one sets it to 0; in either case a key in ARMING whose debounced level is UP goes to RELEASED without
a debounced event. -/
def Obligations.DebouncedPressAndReleaseMoveTheKey : Prop :=
  (∀ (k : KeyId) (s : State), NotYetTaken (.key k) s →
     let r := s.keys[k]
     let conf := s.settings.keys[k]
     (r.down = false → r.stab = 23 →
       ∃ t, exec (.debouncedPress k) s = .next t
         ∧ t.keys = vset s.keys k
             (if r.state = .released then
                { state := .pressed, down := true, stab := 0, toggle := if conf.latch then !r.toggle else r.toggle }
              else { r with down := true, stab := 0 })
         ∧ (∀ p, (t.calls.get p)[k] =
             if r.state = .released ∧ conf.ports.get p = true ∧ (s.presence.get p).present = true
                 ∧ (s.calls.get p)[k].pending = false then { pending := true, acked := false }
             else (s.calls.get p)[k])
         ∧ (∀ p (j : KeyId), j ≠ k → (t.calls.get p)[j] = (s.calls.get p)[j])
         ∧ t.latch = { s.latch with keyLow := vset s.latch.keyLow k true, taken := .key k :: s.latch.taken }
         ∧ t.clock = clockAtWork s ∧ SameExcept [.keys, .calls, .latch, .clock] s t)
     ∧ (r.down = true → r.stab = 23 →
       ∃ t, exec (.debouncedRelease k) s = .next t
         ∧ t.keys = vset s.keys k
             { r with down := false, stab := 0, state := if r.state = .disabled then .disabled else .released }
         ∧ (∀ p, (t.calls.get p)[k] =
             if r.state = .pressed ∧ (s.calls.get p)[k].pending = true ∧ (s.calls.get p)[k].acked = true then
               { pending := false, acked := false }
             else (s.calls.get p)[k])
         ∧ (∀ p (j : KeyId), j ≠ k → (t.calls.get p)[j] = (s.calls.get p)[j])
         ∧ t.latch = { s.latch with keyLow := vset s.latch.keyLow k false, taken := .key k :: s.latch.taken }
         ∧ t.clock = clockAtWork s ∧ SameExcept [.keys, .calls, .latch, .clock] s t))
  ∧ ∀ (k : KeyId) (s : State),
      let r := s.keys[k]
      let counted (n : Nat) : State :=
        s.withKeys (vset s.keys k
          { r with stab := n, state := if r.state = .arming ∧ r.down = false then .released else r.state })
      (s.latch.keyLow[k] = r.down → workEffect (.key k) s = counted 0)
      ∧ (s.latch.keyLow[k] ≠ r.down → r.stab < 23 → workEffect (.key k) s = counted (r.stab + 1))

/-! ## Faults and alarm lines (chapter 11) -/

/-- R182: CLEAR_FAULTS clears from the sender's copy each named event kind, and each named condition kind whose condition
is not active for the sender; the other copies are untouched, and the reply has the copy as it is left. -/
def Obligations.ClearFaultsKeepsActiveConditions : Prop :=
  ∀ (p : Port) (m : Msg) (s : State), Ready p s → refuseLength 1 m = none →
    let mask : BitVec 12 := (m.body[0]?.getD 0).setWidth 12
    let before := (heard p s).faults
    ∃ t, exec (.clearFaults p m) s = .next t
      ∧ Answered p ⟨25, m.tag, .done, [0#18 ++ t.faults.sticky.get p]⟩ [] s t
      ∧ (∀ k : FaultKind, (t.faults.sticky.get p).getLsbD (faultNo k).val =
          ((before.sticky.get p).getLsbD (faultNo k).val &&
            !(mask.getLsbD (faultNo k).val &&
              !((faultNo k).val < 7 && (before.active.get p).getLsbD (faultNo k).val))))
      ∧ t.faults = { before with sticky := before.sticky.set p (t.faults.sticky.get p) }

/-! ## RSTN and reset -/

/-- R9, R22, R37, R38, R39, R49, R55, R64, R124, R125: what RESET leaves in the paths, the merges, the clock, the lanes,
presence, ownership, the monitor and the journal; the address is the straps'. The transceivers' signal is not the part's
own state and stays (the model's choice, log entry 2), as do the commands that wait. R72, R91, R109, R133, R138, R161,
R178, R188: what it leaves in the channel records, the meters, the tracking table, the outputs, the settings, talkback
and the fault block: of the fault kinds, PATH_LOSS, CLOCK_FALLBACK and DESK_ABSENT are active and held by every copy. -/
def Obligations.ResetLeavesEveryBlockInItsResetState : Prop :=
  (∀ (straps : BitVec 2) (s : State),
     ∃ t, exec (.reset straps) s = .next t
       ∧ t.rstn = true ∧ t.unitAddr = straps ∧ t.signal = s.signal ∧ t.pending = s.pending
       ∧ (∀ p x, (t.paths.get p).get x = bareReceiver .dark .hunting)
       ∧ (∀ p, t.merges.get p =
           { slots := #v[none, none, none, none], playNo := 0, hunting := false, missRun := 4, emptyRun := 0
             heldRet := Vector.replicate 16 0, heldTalk := 0, mask := 0, talkValid := false, slips := 0, lates := 0
             dups := 0, resyncs := 0, lastPath := none })
       ∧ t.clock.source = none
       ∧ (∀ p, t.clock.monitors.get p = { state := .unusable, run := 0, ref := none, last := 0, interval := .none })
       ∧ t.frameNo = 0
       ∧ (∀ p, t.lanes.get p = { asm := none, queue := [], sent := 0 })
       ∧ (∀ p, t.presence.get p = { present := false, running := false, elapsed := 0 })
       ∧ (∀ c : Chan, t.owners.chan[c] = none) ∧ (∀ o : OutId, t.owners.out[o] = none)
       ∧ (∀ b : BankId, t.phantom.banks[b] = { state := .normal, trips := 0, last := 0, timer := 0 })
       ∧ t.phantom.scan = 0
       ∧ t.journal = { gen := 0, entries := [] })
  ∧ (∀ (straps : BitVec 2) (s : State),
     ∃ t, exec (.reset straps) s = .next t
       ∧ (∀ c : Chan, t.channels[c] =
           { gain := 20, pad := false, eff := 20, pending := none, request := false, phantom := .off, mute := 0, last := 0
             sent := { gain := 20, pad := false, feed := false } })
       ∧ (∀ p (c : Chan), (t.meters.get p)[c] = { peak := 0, clip := false, sendClip := false })
       ∧ (∀ p (c : Chan), (t.tracks.get p)[c] =
           { trim := 0, anchor := 20, tracking := false, gain := 0, limited := false, period := 0 })
       ∧ (∀ i : OutId, (t.outputs[i]).primary = none ∧ (t.outputs[i]).backup = none ∧ (t.outputs[i]).action = .mute
           ∧ (t.outputs[i]).sel = .silent ∧ (t.outputs[i]).failed = false ∧ (t.outputs[i]).holdoff = 0
           ∧ (t.outputs[i]).wp = 0 ∧ (t.outputs[i]).wb = 0 ∧ (t.outputs[i]).duck = 0
           ∧ (t.outputs[i]).frame = Vector.replicate 8 0))
  ∧ (∀ (straps : BitVec 2) (s : State),
       ∃ t, exec (.reset straps) s = .next t
         ∧ t.settings =
             { clockPriority := [.p0, .p1, .p2], pathEnable := ⟨⟨true, true⟩, ⟨true, true⟩, ⟨true, true⟩⟩
               timeout := ⟨2, 2, 2⟩, policy := ⟨.release, .release, .release⟩, trip := 1
               keys := Vector.replicate 4 { enabled := false, latch := false, ports := ⟨false, false, false⟩ }
               talkSource := 47, talkLevel := 0, duckDepth := 24, alarmMap := Vector.replicate 12 none }
         ∧ (∀ k : KeyId, t.keys[k] = { state := .disabled, down := false, stab := 0, toggle := false })
         ∧ (∀ p (k : KeyId), (t.calls.get p)[k] = { pending := false, acked := false })
         ∧ (∀ p, t.talkMask.get p = 0)
         ∧ (∀ p (k : FaultKind), (t.faults.sticky.get p).getLsbD (faultNo k).val = true ↔
             k = .pathLoss ∨ k = .clockFallback ∨ k = .deskAbsent)
         ∧ (∀ p, t.faults.active.get p = t.faults.sticky.get p)
         ∧ (∀ l, t.faults.stretch.get l = 0 ∧ t.faults.driven.get l = false))

/-! ## Rules that every step keeps -/

/-- R127: the journal holds at most 32 entries of consecutive generations, the newest with the current one. -/
def Obligations.StepKeepsTheJournal : Prop :=
  ∀ s t : State, JournalOk s → step s = .next t → JournalOk t

/-- R44, R49, R51: at most 8 replies wait at a port, none and no message in progress while it is OFFLINE, and the head
reply has a word left to send. -/
def Obligations.StepKeepsTheLanes : Prop :=
  ∀ s t : State, LanesOk s → step s = .next t → LanesOk t

/-- R93, R95: D is T + A − E brought into its range, the limited flag tells whether that changed it, and the anchor is E
for the owner and where tracking is OFF. -/
def Obligations.StepKeepsTheTrackingTable : Prop :=
  ∀ s t : State, TracksOk s → step s = .next t → TracksOk t

/-- R72, R74, R78, R81, R82, R84, R85, R113, R114, R118: the gain is even and in its range, E follows it and the pad,
the module has the present setting, a pending step is legal and not overdue, and a ramp's mute counter runs until
the ramp ends; a phantom feed is on only while its request is ON and its bank NORMAL or RETRY, and the banks' timers
and trip counts stand as their states say. -/
def Obligations.StepKeepsHeadAmplifiersPhantomPowerAndBanks : Prop :=
  (∀ s t : State, HeadAmpsOk s → step s = .next t → HeadAmpsOk t)
  ∧ (∀ s t : State, PhantomOk s ∧ BanksOk s → step s = .next t → PhantomOk t ∧ BanksOk t)

/-- R180, R181, R185: every condition stands as the state makes it, every copy holds the kinds whose condition is active
for its port, and the lines are driven as the state makes them. R180: a report of the conditions sets, in each port's
copy, the flags of the conditions that have become active for that port, and no other, and an event's report its kind's
flag in the copies of its scope. R9, R31, R35, R63, R108, R122, R159: when each condition holds for a port; an event kind
has none. -/
def Obligations.StepKeepsTheFaultBlock : Prop :=
  (∀ s t : State, FaultsOk s → step s = .next t → FaultsOk t)
  ∧ (∀ (s : State) (p : Port) (k : FaultKind),
      let flag (u : State) : Bool := (u.faults.sticky.get p).getLsbD (faultNo k).val
      let holds (u : State) : Bool := (conditionsOf u p).getLsbD (faultNo k).val
      (flag (settle s) = true ↔
        flag s = true ∨ holds s = true ∧ (s.faults.active.get p).getLsbD (faultNo k).val = false)
      ∧ ∀ (scope : Port → Bool) (j : FaultKind),
          flag (raiseFor scope j s) = true ↔ flag s = true ∨ k = j ∧ scope p = true)
  ∧ ∀ (s : State) (p : Port),
      let holds (k : FaultKind) : Prop := (conditionsOf s p).getLsbD (faultNo k).val = true
      let state (q : Port) (x : PathName) : PathState := ((s.paths.get q).get x).state
      (holds .pathLoss ↔ ∃ q x, state q x = .dark ∨ state q x = .acquire)
      ∧ (holds .pathDegraded ↔ ∃ q x, state q x = .degraded)
      ∧ (holds .clockFallback ↔ ∃ q, s.settings.clockPriority.head? = some q ∧ s.clock.source ≠ some q)
      ∧ (holds .phantomShed ↔ ∃ b : BankId, s.phantom.banks[b].state ≠ .normal)
      ∧ (holds .outputFailover ↔ ∃ o : OutId, s.outputs[o].primary ≠ none ∧ s.outputs[o].sel ≠ .primary)
      ∧ (holds .deskAbsent ↔
          ∃ q x, (s.settings.pathEnable.get q).get x = true ∧ (s.presence.get q).present = false)
      ∧ (holds .trackLimit ↔ ∃ c : Chan, (s.tracks.get p)[c].limited = true)
      ∧ ∀ k, k = .slip ∨ k = .resync ∨ k = .clockReject ∨ k = .controlDrop ∨ k = .replyOverrun → ¬ holds k

/-- R165, R170, R173: a call is pending only for an enabled key at a PRESENT port in its mask. -/
def Obligations.StepKeepsTheCallTable : Prop :=
  ∀ s t : State, CallsOk s → step s = .next t → CallsOk t

/-- R30, R32: the stage clock source is the first listed port whose clock is GOOD, or LOCAL, and a port's clock is
UNUSABLE just while the port is OFFLINE. -/
def Obligations.StepKeepsTheClockSelection : Prop :=
  ∀ s t : State, ClockOk s → step s = .next t → ClockOk t

/-- R5 to R8, R13, R21: a path is DISABLED just while its flag is clear, its runs and counts stay below their limits, and
a window holds only frames at their own distance from P and nothing while it hunts or its port is OFFLINE. -/
def Obligations.StepKeepsThePathsAndWindows : Prop :=
  ∀ s t : State, PathsOk s ∧ WindowsOk s → step s = .next t → PathsOk t ∧ WindowsOk t

/-- R139, R153, R154: an output's selection, flag and timer agree with its setting, and its weights never exceed 480
together. -/
def Obligations.StepKeepsTheOutputs : Prop :=
  ∀ s t : State, OutputsOk s ∧ WeightsOk s → step s = .next t → OutputsOk t ∧ WeightsOk t

/-- Every rule that a step keeps holds after reset. -/
def Obligations.ResetMeetsEveryKeptRule : Prop :=
  JournalOk State.reset ∧ LanesOk State.reset ∧ TracksOk State.reset ∧ HeadAmpsOk State.reset ∧ PhantomOk State.reset
    ∧ BanksOk State.reset ∧ FaultsOk State.reset ∧ CallsOk State.reset ∧ ClockOk State.reset ∧ PathsOk State.reset
    ∧ WindowsOk State.reset ∧ OutputsOk State.reset ∧ WeightsOk State.reset
end

