-- ==== Sys2Proof/Laws/State.lean ====
section
/-! SUPPORT. Reading a field after a field was replaced, and reading the tables after a write: the small lemmas of the
state, each true by rfl or by cases. -/
namespace Sys2Proof

@[simp] theorem PerPort.get_set_self {α : Type} (t : PerPort α) (p : Port) (v : α) : (t.set p v).get p = v := by
  cases p <;> rfl

@[simp] theorem PerPort.get_set_ne {α : Type} (t : PerPort α) {p q : Port} (v : α) (h : q ≠ p) :
    (t.set p v).get q = t.get q := by
  cases p <;> cases q <;> first | rfl | exact absurd rfl h

theorem PerPort.get_set {α : Type} (t : PerPort α) (p q : Port) (v : α) :
    (t.set p v).get q = if q = p then v else t.get q := by
  cases p <;> cases q <;> rfl

@[simp] theorem PerPort.get_of {α : Type} (f : Port → α) (p : Port) : (PerPort.of f).get p = f p := by
  cases p <;> rfl

theorem PerPort.ext_get {α : Type} {t u : PerPort α} (h : ∀ p, t.get p = u.get p) : t = u := by
  cases t; cases u
  exact (PerPort.mk.injEq ..).mpr ⟨h .p0, h .p1, h .p2⟩

@[simp] theorem PerPath.get_set_self {α : Type} (t : PerPath α) (x : PathName) (v : α) : (t.set x v).get x = v := by
  cases x <;> rfl

@[simp] theorem PerPath.get_set_ne {α : Type} (t : PerPath α) {x y : PathName} (v : α) (h : y ≠ x) :
    (t.set x v).get y = t.get y := by
  cases x <;> cases y <;> first | rfl | exact absurd rfl h

@[simp] theorem PerPath.get_of {α : Type} (f : PathName → α) (x : PathName) : (PerPath.of f).get x = f x := by
  cases x <;> rfl

@[simp] theorem PerLine.get_set_self {α : Type} (t : PerLine α) (l : Line) (v : α) : (t.set l v).get l = v := by
  cases l <;> rfl

@[simp] theorem PerLine.get_set_ne {α : Type} (t : PerLine α) {k l : Line} (v : α) (h : k ≠ l) :
    (t.set l v).get k = t.get k := by
  cases k <;> cases l <;> first | rfl | exact absurd rfl h

@[simp] theorem PerLine.get_of {α : Type} (f : Line → α) (l : Line) : (PerLine.of f).get l = f l := by
  cases l <;> rfl

theorem vset_getElem {α : Type} {n : Nat} (v : Vector α n) (i : Fin n) (x : α) (j : Nat) (hj : j < n) :
    (vset v i x)[j] = if i.val = j then x else v[j] := by
  simp [vset, Vector.getElem_set]

@[simp] theorem vset_get_self {α : Type} {n : Nat} (v : Vector α n) (i : Fin n) (x : α) :
    (vset v i x)[i.val] = x := by
  simp [vset_getElem]

@[simp] theorem vset_get_ne {α : Type} {n : Nat} (v : Vector α n) {i j : Fin n} (x : α) (h : j ≠ i) :
    (vset v i x)[j.val] = v[j.val] := by
  have : i.val ≠ j.val := fun e => h (Fin.ext e.symm)
  simp [vset_getElem, this]

theorem vset_get {α : Type} {n : Nat} (v : Vector α n) (i j : Fin n) (x : α) :
    (vset v i x)[j] = if j = i then x else v[j] := by
  by_cases h : j = i
  · subst h; simp
  · simp [h]

namespace Machine

@[simp] theorem State.withRstn_fields (s : State) (v : Bool) :
    (s.withRstn v).rstn = v ∧
    (s.withRstn v).unitAddr = s.unitAddr ∧
    (s.withRstn v).signal = s.signal ∧
    (s.withRstn v).paths = s.paths ∧
    (s.withRstn v).merges = s.merges ∧
    (s.withRstn v).clock = s.clock ∧
    (s.withRstn v).frameNo = s.frameNo ∧
    (s.withRstn v).lanes = s.lanes ∧
    (s.withRstn v).presence = s.presence ∧
    (s.withRstn v).owners = s.owners ∧
    (s.withRstn v).channels = s.channels ∧
    (s.withRstn v).meters = s.meters ∧
    (s.withRstn v).tracks = s.tracks ∧
    (s.withRstn v).phantom = s.phantom ∧
    (s.withRstn v).journal = s.journal ∧
    (s.withRstn v).settings = s.settings ∧
    (s.withRstn v).outputs = s.outputs ∧
    (s.withRstn v).keys = s.keys ∧
    (s.withRstn v).calls = s.calls ∧
    (s.withRstn v).talkMask = s.talkMask ∧
    (s.withRstn v).faults = s.faults ∧
    (s.withRstn v).sent = s.sent ∧
    (s.withRstn v).latch = s.latch ∧
    (s.withRstn v).pending = s.pending := by
  exact ⟨rfl, rfl, rfl, rfl, rfl, rfl, rfl, rfl, rfl, rfl, rfl, rfl, rfl, rfl, rfl, rfl, rfl, rfl, rfl, rfl, rfl, rfl, rfl, rfl⟩

@[simp] theorem State.withUnitAddr_fields (s : State) (v : BitVec 2) :
    (s.withUnitAddr v).rstn = s.rstn ∧
    (s.withUnitAddr v).unitAddr = v ∧
    (s.withUnitAddr v).signal = s.signal ∧
    (s.withUnitAddr v).paths = s.paths ∧
    (s.withUnitAddr v).merges = s.merges ∧
    (s.withUnitAddr v).clock = s.clock ∧
    (s.withUnitAddr v).frameNo = s.frameNo ∧
    (s.withUnitAddr v).lanes = s.lanes ∧
    (s.withUnitAddr v).presence = s.presence ∧
    (s.withUnitAddr v).owners = s.owners ∧
    (s.withUnitAddr v).channels = s.channels ∧
    (s.withUnitAddr v).meters = s.meters ∧
    (s.withUnitAddr v).tracks = s.tracks ∧
    (s.withUnitAddr v).phantom = s.phantom ∧
    (s.withUnitAddr v).journal = s.journal ∧
    (s.withUnitAddr v).settings = s.settings ∧
    (s.withUnitAddr v).outputs = s.outputs ∧
    (s.withUnitAddr v).keys = s.keys ∧
    (s.withUnitAddr v).calls = s.calls ∧
    (s.withUnitAddr v).talkMask = s.talkMask ∧
    (s.withUnitAddr v).faults = s.faults ∧
    (s.withUnitAddr v).sent = s.sent ∧
    (s.withUnitAddr v).latch = s.latch ∧
    (s.withUnitAddr v).pending = s.pending := by
  exact ⟨rfl, rfl, rfl, rfl, rfl, rfl, rfl, rfl, rfl, rfl, rfl, rfl, rfl, rfl, rfl, rfl, rfl, rfl, rfl, rfl, rfl, rfl, rfl, rfl⟩

@[simp] theorem State.withSignal_fields (s : State) (v : PerPort (PerPath Bool)) :
    (s.withSignal v).rstn = s.rstn ∧
    (s.withSignal v).unitAddr = s.unitAddr ∧
    (s.withSignal v).signal = v ∧
    (s.withSignal v).paths = s.paths ∧
    (s.withSignal v).merges = s.merges ∧
    (s.withSignal v).clock = s.clock ∧
    (s.withSignal v).frameNo = s.frameNo ∧
    (s.withSignal v).lanes = s.lanes ∧
    (s.withSignal v).presence = s.presence ∧
    (s.withSignal v).owners = s.owners ∧
    (s.withSignal v).channels = s.channels ∧
    (s.withSignal v).meters = s.meters ∧
    (s.withSignal v).tracks = s.tracks ∧
    (s.withSignal v).phantom = s.phantom ∧
    (s.withSignal v).journal = s.journal ∧
    (s.withSignal v).settings = s.settings ∧
    (s.withSignal v).outputs = s.outputs ∧
    (s.withSignal v).keys = s.keys ∧
    (s.withSignal v).calls = s.calls ∧
    (s.withSignal v).talkMask = s.talkMask ∧
    (s.withSignal v).faults = s.faults ∧
    (s.withSignal v).sent = s.sent ∧
    (s.withSignal v).latch = s.latch ∧
    (s.withSignal v).pending = s.pending := by
  exact ⟨rfl, rfl, rfl, rfl, rfl, rfl, rfl, rfl, rfl, rfl, rfl, rfl, rfl, rfl, rfl, rfl, rfl, rfl, rfl, rfl, rfl, rfl, rfl, rfl⟩

@[simp] theorem State.withPaths_fields (s : State) (v : PerPort (PerPath PathRec)) :
    (s.withPaths v).rstn = s.rstn ∧
    (s.withPaths v).unitAddr = s.unitAddr ∧
    (s.withPaths v).signal = s.signal ∧
    (s.withPaths v).paths = v ∧
    (s.withPaths v).merges = s.merges ∧
    (s.withPaths v).clock = s.clock ∧
    (s.withPaths v).frameNo = s.frameNo ∧
    (s.withPaths v).lanes = s.lanes ∧
    (s.withPaths v).presence = s.presence ∧
    (s.withPaths v).owners = s.owners ∧
    (s.withPaths v).channels = s.channels ∧
    (s.withPaths v).meters = s.meters ∧
    (s.withPaths v).tracks = s.tracks ∧
    (s.withPaths v).phantom = s.phantom ∧
    (s.withPaths v).journal = s.journal ∧
    (s.withPaths v).settings = s.settings ∧
    (s.withPaths v).outputs = s.outputs ∧
    (s.withPaths v).keys = s.keys ∧
    (s.withPaths v).calls = s.calls ∧
    (s.withPaths v).talkMask = s.talkMask ∧
    (s.withPaths v).faults = s.faults ∧
    (s.withPaths v).sent = s.sent ∧
    (s.withPaths v).latch = s.latch ∧
    (s.withPaths v).pending = s.pending := by
  exact ⟨rfl, rfl, rfl, rfl, rfl, rfl, rfl, rfl, rfl, rfl, rfl, rfl, rfl, rfl, rfl, rfl, rfl, rfl, rfl, rfl, rfl, rfl, rfl, rfl⟩

@[simp] theorem State.withMerges_fields (s : State) (v : PerPort Merge) :
    (s.withMerges v).rstn = s.rstn ∧
    (s.withMerges v).unitAddr = s.unitAddr ∧
    (s.withMerges v).signal = s.signal ∧
    (s.withMerges v).paths = s.paths ∧
    (s.withMerges v).merges = v ∧
    (s.withMerges v).clock = s.clock ∧
    (s.withMerges v).frameNo = s.frameNo ∧
    (s.withMerges v).lanes = s.lanes ∧
    (s.withMerges v).presence = s.presence ∧
    (s.withMerges v).owners = s.owners ∧
    (s.withMerges v).channels = s.channels ∧
    (s.withMerges v).meters = s.meters ∧
    (s.withMerges v).tracks = s.tracks ∧
    (s.withMerges v).phantom = s.phantom ∧
    (s.withMerges v).journal = s.journal ∧
    (s.withMerges v).settings = s.settings ∧
    (s.withMerges v).outputs = s.outputs ∧
    (s.withMerges v).keys = s.keys ∧
    (s.withMerges v).calls = s.calls ∧
    (s.withMerges v).talkMask = s.talkMask ∧
    (s.withMerges v).faults = s.faults ∧
    (s.withMerges v).sent = s.sent ∧
    (s.withMerges v).latch = s.latch ∧
    (s.withMerges v).pending = s.pending := by
  exact ⟨rfl, rfl, rfl, rfl, rfl, rfl, rfl, rfl, rfl, rfl, rfl, rfl, rfl, rfl, rfl, rfl, rfl, rfl, rfl, rfl, rfl, rfl, rfl, rfl⟩

@[simp] theorem State.withClock_fields (s : State) (v : Clock) :
    (s.withClock v).rstn = s.rstn ∧
    (s.withClock v).unitAddr = s.unitAddr ∧
    (s.withClock v).signal = s.signal ∧
    (s.withClock v).paths = s.paths ∧
    (s.withClock v).merges = s.merges ∧
    (s.withClock v).clock = v ∧
    (s.withClock v).frameNo = s.frameNo ∧
    (s.withClock v).lanes = s.lanes ∧
    (s.withClock v).presence = s.presence ∧
    (s.withClock v).owners = s.owners ∧
    (s.withClock v).channels = s.channels ∧
    (s.withClock v).meters = s.meters ∧
    (s.withClock v).tracks = s.tracks ∧
    (s.withClock v).phantom = s.phantom ∧
    (s.withClock v).journal = s.journal ∧
    (s.withClock v).settings = s.settings ∧
    (s.withClock v).outputs = s.outputs ∧
    (s.withClock v).keys = s.keys ∧
    (s.withClock v).calls = s.calls ∧
    (s.withClock v).talkMask = s.talkMask ∧
    (s.withClock v).faults = s.faults ∧
    (s.withClock v).sent = s.sent ∧
    (s.withClock v).latch = s.latch ∧
    (s.withClock v).pending = s.pending := by
  exact ⟨rfl, rfl, rfl, rfl, rfl, rfl, rfl, rfl, rfl, rfl, rfl, rfl, rfl, rfl, rfl, rfl, rfl, rfl, rfl, rfl, rfl, rfl, rfl, rfl⟩

@[simp] theorem State.withFrameNo_fields (s : State) (v : BitVec 12) :
    (s.withFrameNo v).rstn = s.rstn ∧
    (s.withFrameNo v).unitAddr = s.unitAddr ∧
    (s.withFrameNo v).signal = s.signal ∧
    (s.withFrameNo v).paths = s.paths ∧
    (s.withFrameNo v).merges = s.merges ∧
    (s.withFrameNo v).clock = s.clock ∧
    (s.withFrameNo v).frameNo = v ∧
    (s.withFrameNo v).lanes = s.lanes ∧
    (s.withFrameNo v).presence = s.presence ∧
    (s.withFrameNo v).owners = s.owners ∧
    (s.withFrameNo v).channels = s.channels ∧
    (s.withFrameNo v).meters = s.meters ∧
    (s.withFrameNo v).tracks = s.tracks ∧
    (s.withFrameNo v).phantom = s.phantom ∧
    (s.withFrameNo v).journal = s.journal ∧
    (s.withFrameNo v).settings = s.settings ∧
    (s.withFrameNo v).outputs = s.outputs ∧
    (s.withFrameNo v).keys = s.keys ∧
    (s.withFrameNo v).calls = s.calls ∧
    (s.withFrameNo v).talkMask = s.talkMask ∧
    (s.withFrameNo v).faults = s.faults ∧
    (s.withFrameNo v).sent = s.sent ∧
    (s.withFrameNo v).latch = s.latch ∧
    (s.withFrameNo v).pending = s.pending := by
  exact ⟨rfl, rfl, rfl, rfl, rfl, rfl, rfl, rfl, rfl, rfl, rfl, rfl, rfl, rfl, rfl, rfl, rfl, rfl, rfl, rfl, rfl, rfl, rfl, rfl⟩

@[simp] theorem State.withLanes_fields (s : State) (v : PerPort Lane) :
    (s.withLanes v).rstn = s.rstn ∧
    (s.withLanes v).unitAddr = s.unitAddr ∧
    (s.withLanes v).signal = s.signal ∧
    (s.withLanes v).paths = s.paths ∧
    (s.withLanes v).merges = s.merges ∧
    (s.withLanes v).clock = s.clock ∧
    (s.withLanes v).frameNo = s.frameNo ∧
    (s.withLanes v).lanes = v ∧
    (s.withLanes v).presence = s.presence ∧
    (s.withLanes v).owners = s.owners ∧
    (s.withLanes v).channels = s.channels ∧
    (s.withLanes v).meters = s.meters ∧
    (s.withLanes v).tracks = s.tracks ∧
    (s.withLanes v).phantom = s.phantom ∧
    (s.withLanes v).journal = s.journal ∧
    (s.withLanes v).settings = s.settings ∧
    (s.withLanes v).outputs = s.outputs ∧
    (s.withLanes v).keys = s.keys ∧
    (s.withLanes v).calls = s.calls ∧
    (s.withLanes v).talkMask = s.talkMask ∧
    (s.withLanes v).faults = s.faults ∧
    (s.withLanes v).sent = s.sent ∧
    (s.withLanes v).latch = s.latch ∧
    (s.withLanes v).pending = s.pending := by
  exact ⟨rfl, rfl, rfl, rfl, rfl, rfl, rfl, rfl, rfl, rfl, rfl, rfl, rfl, rfl, rfl, rfl, rfl, rfl, rfl, rfl, rfl, rfl, rfl, rfl⟩

@[simp] theorem State.withPresence_fields (s : State) (v : PerPort Presence) :
    (s.withPresence v).rstn = s.rstn ∧
    (s.withPresence v).unitAddr = s.unitAddr ∧
    (s.withPresence v).signal = s.signal ∧
    (s.withPresence v).paths = s.paths ∧
    (s.withPresence v).merges = s.merges ∧
    (s.withPresence v).clock = s.clock ∧
    (s.withPresence v).frameNo = s.frameNo ∧
    (s.withPresence v).lanes = s.lanes ∧
    (s.withPresence v).presence = v ∧
    (s.withPresence v).owners = s.owners ∧
    (s.withPresence v).channels = s.channels ∧
    (s.withPresence v).meters = s.meters ∧
    (s.withPresence v).tracks = s.tracks ∧
    (s.withPresence v).phantom = s.phantom ∧
    (s.withPresence v).journal = s.journal ∧
    (s.withPresence v).settings = s.settings ∧
    (s.withPresence v).outputs = s.outputs ∧
    (s.withPresence v).keys = s.keys ∧
    (s.withPresence v).calls = s.calls ∧
    (s.withPresence v).talkMask = s.talkMask ∧
    (s.withPresence v).faults = s.faults ∧
    (s.withPresence v).sent = s.sent ∧
    (s.withPresence v).latch = s.latch ∧
    (s.withPresence v).pending = s.pending := by
  exact ⟨rfl, rfl, rfl, rfl, rfl, rfl, rfl, rfl, rfl, rfl, rfl, rfl, rfl, rfl, rfl, rfl, rfl, rfl, rfl, rfl, rfl, rfl, rfl, rfl⟩

@[simp] theorem State.withOwners_fields (s : State) (v : Owners) :
    (s.withOwners v).rstn = s.rstn ∧
    (s.withOwners v).unitAddr = s.unitAddr ∧
    (s.withOwners v).signal = s.signal ∧
    (s.withOwners v).paths = s.paths ∧
    (s.withOwners v).merges = s.merges ∧
    (s.withOwners v).clock = s.clock ∧
    (s.withOwners v).frameNo = s.frameNo ∧
    (s.withOwners v).lanes = s.lanes ∧
    (s.withOwners v).presence = s.presence ∧
    (s.withOwners v).owners = v ∧
    (s.withOwners v).channels = s.channels ∧
    (s.withOwners v).meters = s.meters ∧
    (s.withOwners v).tracks = s.tracks ∧
    (s.withOwners v).phantom = s.phantom ∧
    (s.withOwners v).journal = s.journal ∧
    (s.withOwners v).settings = s.settings ∧
    (s.withOwners v).outputs = s.outputs ∧
    (s.withOwners v).keys = s.keys ∧
    (s.withOwners v).calls = s.calls ∧
    (s.withOwners v).talkMask = s.talkMask ∧
    (s.withOwners v).faults = s.faults ∧
    (s.withOwners v).sent = s.sent ∧
    (s.withOwners v).latch = s.latch ∧
    (s.withOwners v).pending = s.pending := by
  exact ⟨rfl, rfl, rfl, rfl, rfl, rfl, rfl, rfl, rfl, rfl, rfl, rfl, rfl, rfl, rfl, rfl, rfl, rfl, rfl, rfl, rfl, rfl, rfl, rfl⟩

@[simp] theorem State.withChannels_fields (s : State) (v : Vector Channel 48) :
    (s.withChannels v).rstn = s.rstn ∧
    (s.withChannels v).unitAddr = s.unitAddr ∧
    (s.withChannels v).signal = s.signal ∧
    (s.withChannels v).paths = s.paths ∧
    (s.withChannels v).merges = s.merges ∧
    (s.withChannels v).clock = s.clock ∧
    (s.withChannels v).frameNo = s.frameNo ∧
    (s.withChannels v).lanes = s.lanes ∧
    (s.withChannels v).presence = s.presence ∧
    (s.withChannels v).owners = s.owners ∧
    (s.withChannels v).channels = v ∧
    (s.withChannels v).meters = s.meters ∧
    (s.withChannels v).tracks = s.tracks ∧
    (s.withChannels v).phantom = s.phantom ∧
    (s.withChannels v).journal = s.journal ∧
    (s.withChannels v).settings = s.settings ∧
    (s.withChannels v).outputs = s.outputs ∧
    (s.withChannels v).keys = s.keys ∧
    (s.withChannels v).calls = s.calls ∧
    (s.withChannels v).talkMask = s.talkMask ∧
    (s.withChannels v).faults = s.faults ∧
    (s.withChannels v).sent = s.sent ∧
    (s.withChannels v).latch = s.latch ∧
    (s.withChannels v).pending = s.pending := by
  exact ⟨rfl, rfl, rfl, rfl, rfl, rfl, rfl, rfl, rfl, rfl, rfl, rfl, rfl, rfl, rfl, rfl, rfl, rfl, rfl, rfl, rfl, rfl, rfl, rfl⟩

@[simp] theorem State.withMeters_fields (s : State) (v : PerPort (Vector Meter 48)) :
    (s.withMeters v).rstn = s.rstn ∧
    (s.withMeters v).unitAddr = s.unitAddr ∧
    (s.withMeters v).signal = s.signal ∧
    (s.withMeters v).paths = s.paths ∧
    (s.withMeters v).merges = s.merges ∧
    (s.withMeters v).clock = s.clock ∧
    (s.withMeters v).frameNo = s.frameNo ∧
    (s.withMeters v).lanes = s.lanes ∧
    (s.withMeters v).presence = s.presence ∧
    (s.withMeters v).owners = s.owners ∧
    (s.withMeters v).channels = s.channels ∧
    (s.withMeters v).meters = v ∧
    (s.withMeters v).tracks = s.tracks ∧
    (s.withMeters v).phantom = s.phantom ∧
    (s.withMeters v).journal = s.journal ∧
    (s.withMeters v).settings = s.settings ∧
    (s.withMeters v).outputs = s.outputs ∧
    (s.withMeters v).keys = s.keys ∧
    (s.withMeters v).calls = s.calls ∧
    (s.withMeters v).talkMask = s.talkMask ∧
    (s.withMeters v).faults = s.faults ∧
    (s.withMeters v).sent = s.sent ∧
    (s.withMeters v).latch = s.latch ∧
    (s.withMeters v).pending = s.pending := by
  exact ⟨rfl, rfl, rfl, rfl, rfl, rfl, rfl, rfl, rfl, rfl, rfl, rfl, rfl, rfl, rfl, rfl, rfl, rfl, rfl, rfl, rfl, rfl, rfl, rfl⟩

@[simp] theorem State.withTracks_fields (s : State) (v : PerPort (Vector Track 48)) :
    (s.withTracks v).rstn = s.rstn ∧
    (s.withTracks v).unitAddr = s.unitAddr ∧
    (s.withTracks v).signal = s.signal ∧
    (s.withTracks v).paths = s.paths ∧
    (s.withTracks v).merges = s.merges ∧
    (s.withTracks v).clock = s.clock ∧
    (s.withTracks v).frameNo = s.frameNo ∧
    (s.withTracks v).lanes = s.lanes ∧
    (s.withTracks v).presence = s.presence ∧
    (s.withTracks v).owners = s.owners ∧
    (s.withTracks v).channels = s.channels ∧
    (s.withTracks v).meters = s.meters ∧
    (s.withTracks v).tracks = v ∧
    (s.withTracks v).phantom = s.phantom ∧
    (s.withTracks v).journal = s.journal ∧
    (s.withTracks v).settings = s.settings ∧
    (s.withTracks v).outputs = s.outputs ∧
    (s.withTracks v).keys = s.keys ∧
    (s.withTracks v).calls = s.calls ∧
    (s.withTracks v).talkMask = s.talkMask ∧
    (s.withTracks v).faults = s.faults ∧
    (s.withTracks v).sent = s.sent ∧
    (s.withTracks v).latch = s.latch ∧
    (s.withTracks v).pending = s.pending := by
  exact ⟨rfl, rfl, rfl, rfl, rfl, rfl, rfl, rfl, rfl, rfl, rfl, rfl, rfl, rfl, rfl, rfl, rfl, rfl, rfl, rfl, rfl, rfl, rfl, rfl⟩

@[simp] theorem State.withPhantom_fields (s : State) (v : Phantom) :
    (s.withPhantom v).rstn = s.rstn ∧
    (s.withPhantom v).unitAddr = s.unitAddr ∧
    (s.withPhantom v).signal = s.signal ∧
    (s.withPhantom v).paths = s.paths ∧
    (s.withPhantom v).merges = s.merges ∧
    (s.withPhantom v).clock = s.clock ∧
    (s.withPhantom v).frameNo = s.frameNo ∧
    (s.withPhantom v).lanes = s.lanes ∧
    (s.withPhantom v).presence = s.presence ∧
    (s.withPhantom v).owners = s.owners ∧
    (s.withPhantom v).channels = s.channels ∧
    (s.withPhantom v).meters = s.meters ∧
    (s.withPhantom v).tracks = s.tracks ∧
    (s.withPhantom v).phantom = v ∧
    (s.withPhantom v).journal = s.journal ∧
    (s.withPhantom v).settings = s.settings ∧
    (s.withPhantom v).outputs = s.outputs ∧
    (s.withPhantom v).keys = s.keys ∧
    (s.withPhantom v).calls = s.calls ∧
    (s.withPhantom v).talkMask = s.talkMask ∧
    (s.withPhantom v).faults = s.faults ∧
    (s.withPhantom v).sent = s.sent ∧
    (s.withPhantom v).latch = s.latch ∧
    (s.withPhantom v).pending = s.pending := by
  exact ⟨rfl, rfl, rfl, rfl, rfl, rfl, rfl, rfl, rfl, rfl, rfl, rfl, rfl, rfl, rfl, rfl, rfl, rfl, rfl, rfl, rfl, rfl, rfl, rfl⟩

@[simp] theorem State.withJournal_fields (s : State) (v : Journal) :
    (s.withJournal v).rstn = s.rstn ∧
    (s.withJournal v).unitAddr = s.unitAddr ∧
    (s.withJournal v).signal = s.signal ∧
    (s.withJournal v).paths = s.paths ∧
    (s.withJournal v).merges = s.merges ∧
    (s.withJournal v).clock = s.clock ∧
    (s.withJournal v).frameNo = s.frameNo ∧
    (s.withJournal v).lanes = s.lanes ∧
    (s.withJournal v).presence = s.presence ∧
    (s.withJournal v).owners = s.owners ∧
    (s.withJournal v).channels = s.channels ∧
    (s.withJournal v).meters = s.meters ∧
    (s.withJournal v).tracks = s.tracks ∧
    (s.withJournal v).phantom = s.phantom ∧
    (s.withJournal v).journal = v ∧
    (s.withJournal v).settings = s.settings ∧
    (s.withJournal v).outputs = s.outputs ∧
    (s.withJournal v).keys = s.keys ∧
    (s.withJournal v).calls = s.calls ∧
    (s.withJournal v).talkMask = s.talkMask ∧
    (s.withJournal v).faults = s.faults ∧
    (s.withJournal v).sent = s.sent ∧
    (s.withJournal v).latch = s.latch ∧
    (s.withJournal v).pending = s.pending := by
  exact ⟨rfl, rfl, rfl, rfl, rfl, rfl, rfl, rfl, rfl, rfl, rfl, rfl, rfl, rfl, rfl, rfl, rfl, rfl, rfl, rfl, rfl, rfl, rfl, rfl⟩

@[simp] theorem State.withSettings_fields (s : State) (v : Settings) :
    (s.withSettings v).rstn = s.rstn ∧
    (s.withSettings v).unitAddr = s.unitAddr ∧
    (s.withSettings v).signal = s.signal ∧
    (s.withSettings v).paths = s.paths ∧
    (s.withSettings v).merges = s.merges ∧
    (s.withSettings v).clock = s.clock ∧
    (s.withSettings v).frameNo = s.frameNo ∧
    (s.withSettings v).lanes = s.lanes ∧
    (s.withSettings v).presence = s.presence ∧
    (s.withSettings v).owners = s.owners ∧
    (s.withSettings v).channels = s.channels ∧
    (s.withSettings v).meters = s.meters ∧
    (s.withSettings v).tracks = s.tracks ∧
    (s.withSettings v).phantom = s.phantom ∧
    (s.withSettings v).journal = s.journal ∧
    (s.withSettings v).settings = v ∧
    (s.withSettings v).outputs = s.outputs ∧
    (s.withSettings v).keys = s.keys ∧
    (s.withSettings v).calls = s.calls ∧
    (s.withSettings v).talkMask = s.talkMask ∧
    (s.withSettings v).faults = s.faults ∧
    (s.withSettings v).sent = s.sent ∧
    (s.withSettings v).latch = s.latch ∧
    (s.withSettings v).pending = s.pending := by
  exact ⟨rfl, rfl, rfl, rfl, rfl, rfl, rfl, rfl, rfl, rfl, rfl, rfl, rfl, rfl, rfl, rfl, rfl, rfl, rfl, rfl, rfl, rfl, rfl, rfl⟩

@[simp] theorem State.withOutputs_fields (s : State) (v : Vector Output 16) :
    (s.withOutputs v).rstn = s.rstn ∧
    (s.withOutputs v).unitAddr = s.unitAddr ∧
    (s.withOutputs v).signal = s.signal ∧
    (s.withOutputs v).paths = s.paths ∧
    (s.withOutputs v).merges = s.merges ∧
    (s.withOutputs v).clock = s.clock ∧
    (s.withOutputs v).frameNo = s.frameNo ∧
    (s.withOutputs v).lanes = s.lanes ∧
    (s.withOutputs v).presence = s.presence ∧
    (s.withOutputs v).owners = s.owners ∧
    (s.withOutputs v).channels = s.channels ∧
    (s.withOutputs v).meters = s.meters ∧
    (s.withOutputs v).tracks = s.tracks ∧
    (s.withOutputs v).phantom = s.phantom ∧
    (s.withOutputs v).journal = s.journal ∧
    (s.withOutputs v).settings = s.settings ∧
    (s.withOutputs v).outputs = v ∧
    (s.withOutputs v).keys = s.keys ∧
    (s.withOutputs v).calls = s.calls ∧
    (s.withOutputs v).talkMask = s.talkMask ∧
    (s.withOutputs v).faults = s.faults ∧
    (s.withOutputs v).sent = s.sent ∧
    (s.withOutputs v).latch = s.latch ∧
    (s.withOutputs v).pending = s.pending := by
  exact ⟨rfl, rfl, rfl, rfl, rfl, rfl, rfl, rfl, rfl, rfl, rfl, rfl, rfl, rfl, rfl, rfl, rfl, rfl, rfl, rfl, rfl, rfl, rfl, rfl⟩

@[simp] theorem State.withKeys_fields (s : State) (v : Vector Key 4) :
    (s.withKeys v).rstn = s.rstn ∧
    (s.withKeys v).unitAddr = s.unitAddr ∧
    (s.withKeys v).signal = s.signal ∧
    (s.withKeys v).paths = s.paths ∧
    (s.withKeys v).merges = s.merges ∧
    (s.withKeys v).clock = s.clock ∧
    (s.withKeys v).frameNo = s.frameNo ∧
    (s.withKeys v).lanes = s.lanes ∧
    (s.withKeys v).presence = s.presence ∧
    (s.withKeys v).owners = s.owners ∧
    (s.withKeys v).channels = s.channels ∧
    (s.withKeys v).meters = s.meters ∧
    (s.withKeys v).tracks = s.tracks ∧
    (s.withKeys v).phantom = s.phantom ∧
    (s.withKeys v).journal = s.journal ∧
    (s.withKeys v).settings = s.settings ∧
    (s.withKeys v).outputs = s.outputs ∧
    (s.withKeys v).keys = v ∧
    (s.withKeys v).calls = s.calls ∧
    (s.withKeys v).talkMask = s.talkMask ∧
    (s.withKeys v).faults = s.faults ∧
    (s.withKeys v).sent = s.sent ∧
    (s.withKeys v).latch = s.latch ∧
    (s.withKeys v).pending = s.pending := by
  exact ⟨rfl, rfl, rfl, rfl, rfl, rfl, rfl, rfl, rfl, rfl, rfl, rfl, rfl, rfl, rfl, rfl, rfl, rfl, rfl, rfl, rfl, rfl, rfl, rfl⟩

@[simp] theorem State.withCalls_fields (s : State) (v : PerPort (Vector Call 4)) :
    (s.withCalls v).rstn = s.rstn ∧
    (s.withCalls v).unitAddr = s.unitAddr ∧
    (s.withCalls v).signal = s.signal ∧
    (s.withCalls v).paths = s.paths ∧
    (s.withCalls v).merges = s.merges ∧
    (s.withCalls v).clock = s.clock ∧
    (s.withCalls v).frameNo = s.frameNo ∧
    (s.withCalls v).lanes = s.lanes ∧
    (s.withCalls v).presence = s.presence ∧
    (s.withCalls v).owners = s.owners ∧
    (s.withCalls v).channels = s.channels ∧
    (s.withCalls v).meters = s.meters ∧
    (s.withCalls v).tracks = s.tracks ∧
    (s.withCalls v).phantom = s.phantom ∧
    (s.withCalls v).journal = s.journal ∧
    (s.withCalls v).settings = s.settings ∧
    (s.withCalls v).outputs = s.outputs ∧
    (s.withCalls v).keys = s.keys ∧
    (s.withCalls v).calls = v ∧
    (s.withCalls v).talkMask = s.talkMask ∧
    (s.withCalls v).faults = s.faults ∧
    (s.withCalls v).sent = s.sent ∧
    (s.withCalls v).latch = s.latch ∧
    (s.withCalls v).pending = s.pending := by
  exact ⟨rfl, rfl, rfl, rfl, rfl, rfl, rfl, rfl, rfl, rfl, rfl, rfl, rfl, rfl, rfl, rfl, rfl, rfl, rfl, rfl, rfl, rfl, rfl, rfl⟩

@[simp] theorem State.withTalkMask_fields (s : State) (v : PerPort (BitVec 16)) :
    (s.withTalkMask v).rstn = s.rstn ∧
    (s.withTalkMask v).unitAddr = s.unitAddr ∧
    (s.withTalkMask v).signal = s.signal ∧
    (s.withTalkMask v).paths = s.paths ∧
    (s.withTalkMask v).merges = s.merges ∧
    (s.withTalkMask v).clock = s.clock ∧
    (s.withTalkMask v).frameNo = s.frameNo ∧
    (s.withTalkMask v).lanes = s.lanes ∧
    (s.withTalkMask v).presence = s.presence ∧
    (s.withTalkMask v).owners = s.owners ∧
    (s.withTalkMask v).channels = s.channels ∧
    (s.withTalkMask v).meters = s.meters ∧
    (s.withTalkMask v).tracks = s.tracks ∧
    (s.withTalkMask v).phantom = s.phantom ∧
    (s.withTalkMask v).journal = s.journal ∧
    (s.withTalkMask v).settings = s.settings ∧
    (s.withTalkMask v).outputs = s.outputs ∧
    (s.withTalkMask v).keys = s.keys ∧
    (s.withTalkMask v).calls = s.calls ∧
    (s.withTalkMask v).talkMask = v ∧
    (s.withTalkMask v).faults = s.faults ∧
    (s.withTalkMask v).sent = s.sent ∧
    (s.withTalkMask v).latch = s.latch ∧
    (s.withTalkMask v).pending = s.pending := by
  exact ⟨rfl, rfl, rfl, rfl, rfl, rfl, rfl, rfl, rfl, rfl, rfl, rfl, rfl, rfl, rfl, rfl, rfl, rfl, rfl, rfl, rfl, rfl, rfl, rfl⟩

@[simp] theorem State.withFaults_fields (s : State) (v : Faults) :
    (s.withFaults v).rstn = s.rstn ∧
    (s.withFaults v).unitAddr = s.unitAddr ∧
    (s.withFaults v).signal = s.signal ∧
    (s.withFaults v).paths = s.paths ∧
    (s.withFaults v).merges = s.merges ∧
    (s.withFaults v).clock = s.clock ∧
    (s.withFaults v).frameNo = s.frameNo ∧
    (s.withFaults v).lanes = s.lanes ∧
    (s.withFaults v).presence = s.presence ∧
    (s.withFaults v).owners = s.owners ∧
    (s.withFaults v).channels = s.channels ∧
    (s.withFaults v).meters = s.meters ∧
    (s.withFaults v).tracks = s.tracks ∧
    (s.withFaults v).phantom = s.phantom ∧
    (s.withFaults v).journal = s.journal ∧
    (s.withFaults v).settings = s.settings ∧
    (s.withFaults v).outputs = s.outputs ∧
    (s.withFaults v).keys = s.keys ∧
    (s.withFaults v).calls = s.calls ∧
    (s.withFaults v).talkMask = s.talkMask ∧
    (s.withFaults v).faults = v ∧
    (s.withFaults v).sent = s.sent ∧
    (s.withFaults v).latch = s.latch ∧
    (s.withFaults v).pending = s.pending := by
  exact ⟨rfl, rfl, rfl, rfl, rfl, rfl, rfl, rfl, rfl, rfl, rfl, rfl, rfl, rfl, rfl, rfl, rfl, rfl, rfl, rfl, rfl, rfl, rfl, rfl⟩

@[simp] theorem State.withSent_fields (s : State) (v : PerPort Transmit) :
    (s.withSent v).rstn = s.rstn ∧
    (s.withSent v).unitAddr = s.unitAddr ∧
    (s.withSent v).signal = s.signal ∧
    (s.withSent v).paths = s.paths ∧
    (s.withSent v).merges = s.merges ∧
    (s.withSent v).clock = s.clock ∧
    (s.withSent v).frameNo = s.frameNo ∧
    (s.withSent v).lanes = s.lanes ∧
    (s.withSent v).presence = s.presence ∧
    (s.withSent v).owners = s.owners ∧
    (s.withSent v).channels = s.channels ∧
    (s.withSent v).meters = s.meters ∧
    (s.withSent v).tracks = s.tracks ∧
    (s.withSent v).phantom = s.phantom ∧
    (s.withSent v).journal = s.journal ∧
    (s.withSent v).settings = s.settings ∧
    (s.withSent v).outputs = s.outputs ∧
    (s.withSent v).keys = s.keys ∧
    (s.withSent v).calls = s.calls ∧
    (s.withSent v).talkMask = s.talkMask ∧
    (s.withSent v).faults = s.faults ∧
    (s.withSent v).sent = v ∧
    (s.withSent v).latch = s.latch ∧
    (s.withSent v).pending = s.pending := by
  exact ⟨rfl, rfl, rfl, rfl, rfl, rfl, rfl, rfl, rfl, rfl, rfl, rfl, rfl, rfl, rfl, rfl, rfl, rfl, rfl, rfl, rfl, rfl, rfl, rfl⟩

@[simp] theorem State.withLatch_fields (s : State) (v : Latch) :
    (s.withLatch v).rstn = s.rstn ∧
    (s.withLatch v).unitAddr = s.unitAddr ∧
    (s.withLatch v).signal = s.signal ∧
    (s.withLatch v).paths = s.paths ∧
    (s.withLatch v).merges = s.merges ∧
    (s.withLatch v).clock = s.clock ∧
    (s.withLatch v).frameNo = s.frameNo ∧
    (s.withLatch v).lanes = s.lanes ∧
    (s.withLatch v).presence = s.presence ∧
    (s.withLatch v).owners = s.owners ∧
    (s.withLatch v).channels = s.channels ∧
    (s.withLatch v).meters = s.meters ∧
    (s.withLatch v).tracks = s.tracks ∧
    (s.withLatch v).phantom = s.phantom ∧
    (s.withLatch v).journal = s.journal ∧
    (s.withLatch v).settings = s.settings ∧
    (s.withLatch v).outputs = s.outputs ∧
    (s.withLatch v).keys = s.keys ∧
    (s.withLatch v).calls = s.calls ∧
    (s.withLatch v).talkMask = s.talkMask ∧
    (s.withLatch v).faults = s.faults ∧
    (s.withLatch v).sent = s.sent ∧
    (s.withLatch v).latch = v ∧
    (s.withLatch v).pending = s.pending := by
  exact ⟨rfl, rfl, rfl, rfl, rfl, rfl, rfl, rfl, rfl, rfl, rfl, rfl, rfl, rfl, rfl, rfl, rfl, rfl, rfl, rfl, rfl, rfl, rfl, rfl⟩

@[simp] theorem State.withPending_fields (s : State) (v : List Instr) :
    (s.withPending v).rstn = s.rstn ∧
    (s.withPending v).unitAddr = s.unitAddr ∧
    (s.withPending v).signal = s.signal ∧
    (s.withPending v).paths = s.paths ∧
    (s.withPending v).merges = s.merges ∧
    (s.withPending v).clock = s.clock ∧
    (s.withPending v).frameNo = s.frameNo ∧
    (s.withPending v).lanes = s.lanes ∧
    (s.withPending v).presence = s.presence ∧
    (s.withPending v).owners = s.owners ∧
    (s.withPending v).channels = s.channels ∧
    (s.withPending v).meters = s.meters ∧
    (s.withPending v).tracks = s.tracks ∧
    (s.withPending v).phantom = s.phantom ∧
    (s.withPending v).journal = s.journal ∧
    (s.withPending v).settings = s.settings ∧
    (s.withPending v).outputs = s.outputs ∧
    (s.withPending v).keys = s.keys ∧
    (s.withPending v).calls = s.calls ∧
    (s.withPending v).talkMask = s.talkMask ∧
    (s.withPending v).faults = s.faults ∧
    (s.withPending v).sent = s.sent ∧
    (s.withPending v).latch = s.latch ∧
    (s.withPending v).pending = v := by
  exact ⟨rfl, rfl, rfl, rfl, rfl, rfl, rfl, rfl, rfl, rfl, rfl, rfl, rfl, rfl, rfl, rfl, rfl, rfl, rfl, rfl, rfl, rfl, rfl, rfl⟩

end Machine

end Sys2Proof
end

