-- ==== Sys2Proof/Laws/Frames.lean ====
section
/-! SUPPORT. What each operation can change: one lemma per operation, naming every block that it may leave different. A
later proof takes from it, with `.field`, that another block is as it was, and never unfolds the operation for that. -/
namespace Sys2Proof.Safety

open Sys2Proof.Machine

/-! ## Combining frames -/

theorem SameExcept.refl (l : List Block) (s : State) : SameExcept l s s := fun b _ => by cases b <;> rfl

theorem Block.kept_trans {b : Block} {s t u : State} (h1 : b.kept s t) (h2 : b.kept t u) : b.kept s u := by
  cases b <;> exact Eq.trans h2 h1

theorem SameExcept.trans {l : List Block} {s t u : State} (h1 : SameExcept l s t) (h2 : SameExcept l t u) :
    SameExcept l s u := fun b hb => Block.kept_trans (h1 b hb) (h2 b hb)

theorem SameExcept.mono {l k : List Block} {s t : State} (h : SameExcept l s t) (hs : ∀ b ∈ l, b ∈ k) :
    SameExcept k s t := fun b hb => h b fun hl => hb (hs b hl)

/-- Two operations one after the other, each with its own blocks. -/
theorem SameExcept.seq {l k r : List Block} {s t u : State} (h1 : SameExcept l s t) (h2 : SameExcept k t u)
    (hl : ∀ b ∈ l, b ∈ r := by decide) (hk : ∀ b ∈ k, b ∈ r := by decide) : SameExcept r s u :=
  (h1.mono hl).trans (h2.mono hk)

theorem SameExcept.ite {l : List Block} {s t u : State} {c : Prop} [Decidable c] (h1 : SameExcept l s t)
    (h2 : SameExcept l s u) : SameExcept l s (if c then t else u) := by split <;> assumption

theorem SameExcept.foldl {α : Type} {l : List Block} {f : State → α → State} (h : ∀ s a, SameExcept l s (f s a))
    (xs : List α) (s : State) : SameExcept l s (xs.foldl f s) := by
  induction xs generalizing s with
  | nil => exact .refl l s
  | cons x xs ih => exact (h s x).trans (ih _)

theorem SameExcept.onlyIf {l : List Block} {f : State → State} (h : ∀ s, SameExcept l s (f s)) (c : Bool) (s : State) :
    SameExcept l s (onlyIf c f s) := by
  unfold Machine.onlyIf
  split
  · exact h s
  · exact .refl l s

/-! ## Replacing one record -/

theorem setPath_frame (p x r s) : SameExcept [.paths] s (setPath p x r s) := by
  intro b hb; cases b <;> first | rfl | simp at hb

theorem setMerge_frame (p m s) : SameExcept [.merges] s (setMerge p m s) := by
  intro b hb; cases b <;> first | rfl | simp at hb

theorem setLane_frame (p l s) : SameExcept [.lanes] s (setLane p l s) := by
  intro b hb; cases b <;> first | rfl | simp at hb

theorem setMonitor_frame (p m s) : SameExcept [.clock] s (setMonitor p m s) := by
  intro b hb; cases b <;> first | rfl | simp at hb

theorem setPresence_frame (p r s) : SameExcept [.presence] s (setPresence p r s) := by
  intro b hb; cases b <;> first | rfl | simp at hb

theorem setChannel_frame (c ch s) : SameExcept [.channels] s (setChannel c ch s) := by
  intro b hb; cases b <;> first | rfl | simp at hb

theorem setMeter_frame (p c m s) : SameExcept [.meters] s (setMeter p c m s) := by
  intro b hb; cases b <;> first | rfl | simp at hb

theorem setTrack_frame (p c t s) : SameExcept [.tracks] s (setTrack p c t s) := by
  intro b hb; cases b <;> first | rfl | simp at hb

theorem setBank_frame (b k s) : SameExcept [.phantom] s (setBank b k s) := by
  intro b hb; cases b <;> first | rfl | simp at hb

theorem setOutputRec_frame (o r s) : SameExcept [.outputs] s (setOutputRec o r s) := by
  intro b hb; cases b <;> first | rfl | simp at hb

theorem setKey_frame (k r s) : SameExcept [.keys] s (setKey k r s) := by
  intro b hb; cases b <;> first | rfl | simp at hb

theorem setCall_frame (p k c s) : SameExcept [.calls] s (setCall p k c s) := by
  intro b hb; cases b <;> first | rfl | simp at hb

theorem setChanOwner_frame (c o s) : SameExcept [.owners] s (setChanOwner c o s) := by
  intro b hb; cases b <;> first | rfl | simp at hb

theorem setOutOwner_frame (o w s) : SameExcept [.owners] s (setOutOwner o w s) := by
  intro b hb; cases b <;> first | rfl | simp at hb

theorem withTalkMask_frame (v) (s : State) : SameExcept [.talkMask] s (s.withTalkMask v) := by
  intro b hb; cases b <;> first | rfl | simp at hb

theorem withLatch_frame (v) (s : State) : SameExcept [.latch] s (s.withLatch v) := by
  intro b hb; cases b <;> first | rfl | simp at hb

theorem withClock_frame (v) (s : State) : SameExcept [.clock] s (s.withClock v) := by
  intro b hb; cases b <;> first | rfl | simp at hb

theorem withSignal_frame (v) (s : State) : SameExcept [.signal] s (s.withSignal v) := by
  intro b hb; cases b <;> first | rfl | simp at hb

theorem withFaults_frame (v) (s : State) : SameExcept [.faults] s (s.withFaults v) := by
  intro b hb; cases b <;> first | rfl | simp at hb

theorem withCalls_frame (v) (s : State) : SameExcept [.calls] s (s.withCalls v) := by
  intro b hb; cases b <;> first | rfl | simp at hb

theorem withSettings_frame (v) (s : State) : SameExcept [.settings] s (s.withSettings v) := by
  intro b hb; cases b <;> first | rfl | simp at hb

theorem withOutputs_frame (v) (s : State) : SameExcept [.outputs] s (s.withOutputs v) := by
  intro b hb; cases b <;> first | rfl | simp at hb

theorem withMeters_frame (v) (s : State) : SameExcept [.meters] s (s.withMeters v) := by
  intro b hb; cases b <;> first | rfl | simp at hb

theorem withTracks_frame (v) (s : State) : SameExcept [.tracks] s (s.withTracks v) := by
  intro b hb; cases b <;> first | rfl | simp at hb

theorem withPhantom_frame (v) (s : State) : SameExcept [.phantom] s (s.withPhantom v) := by
  intro b hb; cases b <;> first | rfl | simp at hb

theorem withSent_frame (v) (s : State) : SameExcept [.sent] s (s.withSent v) := by
  intro b hb; cases b <;> first | rfl | simp at hb

theorem withFrameNo_frame (v) (s : State) : SameExcept [.frameNo] s (s.withFrameNo v) := by
  intro b hb; cases b <;> first | rfl | simp at hb

/-! ## The shared operations -/

theorem driveLines_frame (s) : SameExcept [.faults] s (driveLines s) := withFaults_frame _ s

theorem settle_frame (s) : SameExcept [.faults] s (settle s) := (withFaults_frame _ s).trans (driveLines_frame _)

theorem raiseFor_frame (scope k s) : SameExcept [.faults] s (raiseFor scope k s) :=
  (withFaults_frame _ s).trans (driveLines_frame _)

theorem raiseAll_frame (k s) : SameExcept [.faults] s (raiseAll k s) := raiseFor_frame _ k s

theorem raiseAt_frame (k p s) : SameExcept [.faults] s (raiseAt k p s) := raiseFor_frame _ k s

theorem appendEntry_frame (kind subject author value s) :
    SameExcept [.journal] s (appendEntry kind subject author value s) := by
  intro b hb; cases b <;> first | rfl | simp at hb

theorem rebase_frame (p c s) : SameExcept [.tracks] s (rebase p c s) := setTrack_frame _ _ _ s

theorem followOutputs_frame (old s) : SameExcept [.outputs] s (followOutputs old s) := withOutputs_frame _ s

theorem reselect_frame (s) : SameExcept [.clock] s (reselect s) := withClock_frame _ s

theorem switchIfSource_frame (p s) : SameExcept [.clock] s (switchIfSource p s) := withClock_frame _ s

theorem moveReference_frame (p x s) : SameExcept [.clock] s (moveReference p x s) :=
  (setMonitor_frame _ _ s).trans (switchIfSource_frame _ _)

/-- The blocks that a port's going OFFLINE reaches. -/
abbrev offlineBlocks : List Block := [.merges, .lanes, .clock, .talkMask, .outputs, .faults]

theorem goOffline_frame (old p s) : SameExcept offlineBlocks s (goOffline old p s) := by
  unfold goOffline
  refine SameExcept.seq (l := offlineBlocks) ?_ (settle_frame _)
  refine SameExcept.seq (l := offlineBlocks) ?_ (reselect_frame _)
  refine SameExcept.seq (l := offlineBlocks) ?_ (followOutputs_frame _ _)
  refine SameExcept.seq (l := offlineBlocks) ?_ (withTalkMask_frame _ _)
  refine SameExcept.seq (l := offlineBlocks) ?_ (setMonitor_frame _ _ _)
  exact SameExcept.seq (setMerge_frame _ _ _) (setLane_frame _ _ _)

theorem leaveCarrying_frame (p x r s) : SameExcept (.paths :: offlineBlocks) s (leaveCarrying p x r s) := by
  unfold leaveCarrying
  dsimp only
  split
  · split
    · exact (setPath_frame _ _ _ _).seq (moveReference_frame _ _ _)
    · exact (setPath_frame _ _ _ _).mono (by decide)
  · exact (setPath_frame _ _ _ _).seq (goOffline_frame _ _ _)

theorem heard_frame (p s) : SameExcept [.presence, .faults] s (heard p s) :=
  (setPresence_frame _ _ _).seq (settle_frame _)

theorem markTaken_frame (w s) : SameExcept [.latch] s (markTaken w s) := withLatch_frame _ s

/-! ## Answers -/

theorem judged_state {P : State → Prop} {tests s a} (h0 : P s) (h : P a.state) : P (judged tests s a).state := by
  unfold judged refuse
  split <;> assumption

theorem judged_frame {l tests s a} (h : SameExcept l s a.state) : SameExcept l s (judged tests s a).state :=
  judged_state (.refl l s) h

theorem enqueue_frame (p kind tag a) : SameExcept [.lanes] a.state (enqueue p kind tag a) := by
  unfold enqueue
  split
  · exact setLane_frame _ _ _
  · exact .refl _ _

/-- A message's delivery changes presence, the faults, the lanes, and what its handler changes. -/
theorem deliver_frame {l : List Block} {handler : Port → Msg → State → Answer}
    (h : ∀ p m s, SameExcept l s (handler p m s).state) (p kind m s) :
    SameExcept (.presence :: .faults :: .lanes :: l) s (deliver p kind m handler s) := by
  unfold deliver
  dsimp only
  have h1 : SameExcept (.presence :: .faults :: .lanes :: l) s (heard p s) :=
    (heard_frame p s).mono (by simp)
  split
  · exact h1.trans ((raiseAt_frame _ _ _).mono (by simp))
  · exact h1.trans (((h p m _).mono (by simp +contextual)).trans ((enqueue_frame _ _ _ _).mono (by simp)))

/-! ## Stage link (chapter 1) -/

theorem placeCopy_frame (p c s) : SameExcept [.merges, .faults] s (placeCopy p c s) := by
  unfold placeCopy
  dsimp only
  split
  · exact (setMerge_frame _ _ _).mono (by decide)
  · split
    · exact (setMerge_frame _ _ _).mono (by decide)
    · split
      · exact (setMerge_frame _ _ _).seq (raiseAll_frame _ _)
      · exact (setMerge_frame _ _ _).mono (by decide)

theorem takeArrival_frame (p x c s) : SameExcept [.paths, .merges, .faults] s (takeArrival p x c s) := by
  unfold takeArrival
  dsimp only
  split
  · exact .refl _ _
  · exact (setPath_frame _ _ _ _).mono (by decide)
  · exact (setPath_frame _ _ _ _).mono (by decide)
  · exact (setPath_frame _ _ _ _).seq (placeCopy_frame _ _ _)
  · exact (setPath_frame _ _ _ _).seq (placeCopy_frame _ _ _)

theorem endPeriod_frame (p x s) : SameExcept [.clock] s (endPeriod p x s) := by
  unfold endPeriod
  dsimp only
  split
  · exact setMonitor_frame _ _ _
  · exact .refl _ _

theorem arriveFrame_frame (p x f s) : SameExcept [.paths, .merges, .clock, .faults] s (arriveFrame p x f s) := by
  unfold arriveFrame
  split
  · dsimp only
    refine SameExcept.seq (l := [.paths, .merges, .clock, .faults]) ?_ (settle_frame _)
    refine SameExcept.seq (l := [.paths, .clock]) ?_ (takeArrival_frame _ _ _ _)
    exact (setPath_frame _ _ _ _).seq (endPeriod_frame _ _ _)
  · exact .refl _ _

theorem matchSync_frame (p x bits s) : SameExcept [.paths] s (matchSync p x bits s) := by
  unfold matchSync
  dsimp only
  split
  · exact setPath_frame _ _ _ _
  · exact .refl _ _

theorem examineNext_frame (p x next s) : SameExcept [.paths] s (examineNext p x next s) := by
  unfold examineNext
  dsimp only
  split
  · exact setPath_frame _ _ _ _
  · exact .refl _ _

theorem loseSignal_frame (p x s) : SameExcept [.signal, .paths, .clock] s (loseSignal p x s) := by
  unfold loseSignal
  dsimp only
  split
  · split
    · split
      · exact SameExcept.seq (l := [.signal, .paths]) ((withSignal_frame _ _).seq (setPath_frame _ _ _ _))
          (moveReference_frame _ _ _)
      · exact SameExcept.seq (l := [.signal, .paths]) ((withSignal_frame _ _).seq (setPath_frame _ _ _ _))
          (setMonitor_frame _ _ _)
    · exact (withSignal_frame _ _).seq (setPath_frame _ _ _ _)
  · exact .refl _ _

theorem returnSignal_frame (p x s) : SameExcept [.signal, .paths, .clock] s (returnSignal p x s) := by
  unfold returnSignal
  dsimp only
  split
  · exact .refl _ _
  · split
    · refine SameExcept.seq (l := [.signal, .paths, .clock]) ?_ (switchIfSource_frame _ _)
      exact SameExcept.seq (l := [.signal, .paths]) ((withSignal_frame _ _).seq (setPath_frame _ _ _ _))
        (setMonitor_frame _ _ _)
    · exact (withSignal_frame _ _).seq (setPath_frame _ _ _ _)

theorem goOnline_frame (p x acq s) : SameExcept [.merges, .clock, .latch] s (goOnline p x acq s) := by
  unfold goOnline
  dsimp only
  refine SameExcept.seq (l := [.merges, .clock, .latch]) ?_ (reselect_frame _)
  refine SameExcept.seq (l := [.merges, .clock]) ?_ (withLatch_frame _ _)
  refine SameExcept.seq (l := [.merges]) ?_ (setMonitor_frame _ _ _)
  split
  · exact setMerge_frame _ _ _
  · exact .refl _ _

/-- The blocks that a path's going UP reaches. -/
abbrev upBlocks : List Block := [.paths, .merges, .clock, .latch, .faults]

theorem goUp_frame (p x n s) : SameExcept upBlocks s (goUp p x n s) := by
  unfold goUp
  dsimp only
  split
  · split
    · exact (setPath_frame _ _ _ _).seq (placeCopy_frame _ _ _)
    · exact (setPath_frame _ _ _ _).mono (by decide)
  · exact (setPath_frame _ _ _ _).seq (goOnline_frame _ _ _ _)

theorem scoreAcquire_frame (p x s) : SameExcept upBlocks s (scoreAcquire p x s) := by
  unfold scoreAcquire
  dsimp only
  split
  · split <;> exact (setPath_frame _ _ _ _).mono (by decide)
  · split
    · exact (setPath_frame _ _ _ _).mono (by decide)
    · split
      · exact goUp_frame _ _ _ _
      · exact (setPath_frame _ _ _ _).mono (by decide)

theorem scoreCarrying_frame (p x s) : SameExcept (.paths :: offlineBlocks) s (scoreCarrying p x s) := by
  unfold scoreCarrying
  dsimp only
  generalize (if (pathRec s p x).arrived = true then 0 else (pathRec s p x).missRun + 1) = n
  split
  · exact leaveCarrying_frame _ _ _ _
  · exact (setPath_frame _ _ _ _).mono (by decide)

/-- The blocks that a boundary score reaches. -/
abbrev scoreBlocks : List Block := .paths :: .latch :: offlineBlocks

theorem scorePath_frame (p x s) : SameExcept scoreBlocks s (scorePath p x s) := by
  unfold scorePath
  split
  · exact .refl _ _
  · exact .refl _ _
  · exact (scoreAcquire_frame _ _ _).seq (settle_frame _)
  · exact (scoreCarrying_frame _ _ _).seq (settle_frame _)
  · exact (scoreCarrying_frame _ _ _).seq (settle_frame _)

theorem disablePath_frame (p x s) : SameExcept (.paths :: offlineBlocks) s (disablePath p x s) := by
  unfold disablePath
  dsimp only
  split
  · exact leaveCarrying_frame _ _ _ _
  · exact (setPath_frame _ _ _ _).mono (by decide)

theorem enablePath_frame (p x s) : SameExcept [.paths] s (enablePath p x s) := by
  unfold enablePath
  split
  · exact setPath_frame _ _ _ _
  · exact .refl _ _

theorem writePathFlag_frame (a b p x s) : SameExcept (.paths :: offlineBlocks) s (writePathFlag a b p x s) := by
  unfold writePathFlag
  split
  · exact disablePath_frame _ _ _
  · exact (enablePath_frame _ _ _).mono (by decide)
  · exact .refl _ _

/-! ## Stage clock (chapter 2) -/

theorem completeInterval_frame (p n s) : SameExcept [.clock, .faults] s (completeInterval p n s) := by
  unfold completeInterval
  dsimp only
  refine SameExcept.seq (l := [.clock, .faults]) ?_ (settle_frame _)
  refine SameExcept.ite (SameExcept.seq (l := [.clock, .faults]) ?_ (reselect_frame _)) ?_ <;>
    exact SameExcept.ite ((setMonitor_frame _ _ _).seq (raiseAll_frame _ _)) ((setMonitor_frame _ _ _).mono (by decide))

theorem answerReadClock_state (p m s) : (answerReadClock p m s).state = s := judged_state (P := (· = s)) rfl rfl

/-! ## Presence and ownership (chapter 4) -/

theorem releaseChanAtExpiry_frame (p s c) : SameExcept [.owners, .journal] s (releaseChanAtExpiry p s c) := by
  unfold releaseChanAtExpiry
  split
  · exact (setChanOwner_frame _ _ _).seq (appendEntry_frame _ _ _ _ _)
  · exact .refl _ _

theorem releaseOutAtExpiry_frame (p s o) : SameExcept [.owners, .journal] s (releaseOutAtExpiry p s o) := by
  unfold releaseOutAtExpiry
  split
  · exact (setOutOwner_frame _ _ _).seq (appendEntry_frame _ _ _ _ _)
  · exact .refl _ _

theorem releaseAll_frame (p s) : SameExcept [.owners, .journal] s (releaseAll p s) :=
  (SameExcept.foldl (releaseChanAtExpiry_frame p) _ _).trans (SameExcept.foldl (releaseOutAtExpiry_frame p) _ _)

theorem clearCallsAt_frame (p s) : SameExcept [.calls] s (clearCallsAt p s) := withCalls_frame _ s

/-- The blocks that a presence expiry reaches. -/
abbrev expiryBlocks : List Block := [.presence, .owners, .journal, .talkMask, .calls, .faults]

theorem expire_frame (p s) : SameExcept expiryBlocks s (expire p s) := by
  unfold expire
  dsimp only
  refine SameExcept.seq (l := expiryBlocks) ?_ (settle_frame _)
  refine SameExcept.seq (l := [.presence, .owners, .journal, .talkMask]) ?_ (clearCallsAt_frame _ _)
  refine SameExcept.seq (l := [.presence, .owners, .journal]) ?_ (withTalkMask_frame _ _)
  split
  · exact (setPresence_frame _ _ _).seq (releaseAll_frame _ _)
  · exact (setPresence_frame _ _ _).mono (by decide)

theorem endCalls_frame (p s) : SameExcept [.calls] s (endCalls p s) := withCalls_frame _ s

theorem holdTimeout_frame (p old s) : SameExcept [.presence] s (holdTimeout p old s) := by
  unfold holdTimeout
  dsimp only
  split
  · exact setPresence_frame _ _ _
  · exact .refl _ _

theorem countPresence_frame (p s) : SameExcept expiryBlocks s (countPresence p s) := by
  unfold countPresence
  dsimp only
  refine SameExcept.trans ((endCalls_frame p s).mono (by decide)) ?_
  split
  · exact expire_frame _ _
  · split
    · exact (setPresence_frame _ _ _).mono (by decide)
    · exact .refl _ _

theorem claimChan_frame (p s c) : SameExcept [.owners, .tracks, .journal] s (claimChan p s c) := by
  unfold claimChan
  split
  · exact SameExcept.seq (l := [.owners, .tracks]) ((setChanOwner_frame _ _ _).seq (rebase_frame _ _ _))
      (appendEntry_frame _ _ _ _ _)
  · exact .refl _ _
  · exact .refl _ _

theorem claimOut_frame (p s o) : SameExcept [.owners, .journal] s (claimOut p s o) := by
  unfold claimOut
  split
  · exact (setOutOwner_frame _ _ _).seq (appendEntry_frame _ _ _ _ _)
  · exact .refl _ _
  · exact .refl _ _

theorem releaseChan_frame (p s c) : SameExcept [.owners, .journal] s (releaseChan p s c) := by
  unfold releaseChan
  split
  · exact (setChanOwner_frame _ _ _).seq (appendEntry_frame _ _ _ _ _)
  · exact .refl _ _

theorem releaseOut_frame (p s o) : SameExcept [.owners, .journal] s (releaseOut p s o) := by
  unfold releaseOut
  split
  · exact (setOutOwner_frame _ _ _).seq (appendEntry_frame _ _ _ _ _)
  · exact .refl _ _

theorem answerClaimChannels_frame (p m s) :
    SameExcept [.owners, .tracks, .journal, .faults] s (answerClaimChannels p m s).state :=
  judged_frame ((SameExcept.foldl (claimChan_frame p) _ _).seq (settle_frame _))

theorem answerReleaseChannels_frame (p m s) : SameExcept [.owners, .journal] s (answerReleaseChannels p m s).state :=
  judged_frame (SameExcept.foldl (releaseChan_frame p) _ _)

theorem answerClaimOutputs_frame (p m s) : SameExcept [.owners, .journal] s (answerClaimOutputs p m s).state :=
  judged_frame (SameExcept.foldl (claimOut_frame p) _ _)

theorem answerReleaseOutputs_frame (p m s) : SameExcept [.owners, .journal] s (answerReleaseOutputs p m s).state :=
  judged_frame (SameExcept.foldl (releaseOut_frame p) _ _)

theorem answerReadOwners_state (p m s) : (answerReadOwners p m s).state = s := judged_state (P := (· = s)) rfl rfl

/-! ## Gain tracking (chapter 6) -/

theorem anchorRule_frame (c s) : SameExcept [.tracks] s (anchorRule c s) :=
  SameExcept.foldl (fun _ _ => setTrack_frame _ _ _ _) _ _

theorem answerSetTrim_frame (p m s) : SameExcept [.tracks, .faults] s (answerSetTrim p m s).state :=
  judged_frame ((setTrack_frame _ _ _ _).seq (settle_frame _))

theorem setTrackingOne_frame (p on s c) : SameExcept [.tracks] s (setTrackingOne p on s c) := setTrack_frame _ _ _ _

theorem answerSetTracking_frame (p m s) : SameExcept [.tracks, .faults] s (answerSetTracking p m s).state :=
  judged_frame ((SameExcept.foldl (setTrackingOne_frame p _) _ _).seq (settle_frame _))

theorem answerReadTracking_state (p m s) : (answerReadTracking p m s).state = s := judged_state (P := (· = s)) rfl rfl

/-! ## Head amplifiers (chapter 5) -/

/-- The blocks that a step's application reaches. -/
abbrev stepBlocks : List Block := [.channels, .tracks, .journal, .faults]

theorem applyStep_frame (c st s) : SameExcept stepBlocks s (applyStep c st s) := by
  unfold applyStep
  dsimp only
  split
  · exact (setChannel_frame _ _ _).mono (by decide)
  · refine SameExcept.seq (l := [.channels, .tracks, .journal]) ?_ (settle_frame _)
    exact SameExcept.seq (l := [.channels, .tracks]) ((setChannel_frame _ _ _).seq (anchorRule_frame _ _))
      (appendEntry_frame _ _ _ _ _)

theorem advanceStep_frame (c f s) : SameExcept stepBlocks s (advanceStep c f s) := by
  unfold advanceStep
  dsimp only
  split
  · exact .refl _ _
  · split
    · exact applyStep_frame _ _ _
    · exact (setChannel_frame _ _ _).mono (by decide)

theorem captureFrame_frame (c s) : SameExcept (.meters :: stepBlocks) s (captureFrame c s) := by
  unfold captureFrame
  dsimp only
  refine SameExcept.seq (l := .meters :: stepBlocks) ?_ (setChannel_frame _ _ _)
  exact SameExcept.seq (SameExcept.foldl (l := [.meters]) (fun _ _ => setMeter_frame _ _ _ _) _ _) (advanceStep_frame _ _ _)

theorem movePhantom_frame (a c ch s) : SameExcept [.channels, .journal] s (movePhantom a c ch s) := by
  unfold movePhantom
  dsimp only
  split
  · exact (setChannel_frame _ _ _).seq (appendEntry_frame _ _ _ _ _)
  · exact (setChannel_frame _ _ _).mono (by decide)

theorem countMute_frame (c s) : SameExcept [.channels, .journal] s (countMute c s) := by
  unfold countMute
  dsimp only
  split
  · exact .refl _ _
  · split
    · split <;> first | exact movePhantom_frame _ _ _ _ | exact (setChannel_frame _ _ _).mono (by decide)
    · exact (setChannel_frame _ _ _).mono (by decide)

theorem shedChan_frame (s c) : SameExcept [.channels, .journal] s (shedChan s c) := movePhantom_frame _ _ _ _

theorem retryChan_frame (s c) : SameExcept [.channels, .journal] s (retryChan s c) := by
  unfold retryChan
  dsimp only
  split
  · exact movePhantom_frame _ _ _ _
  · exact .refl _ _

theorem answerSetGain_frame (p m s) : SameExcept [.channels] s (answerSetGain p m s).state :=
  judged_frame (setChannel_frame _ _ _)

theorem answerSetPad_frame (p m s) : SameExcept [.channels] s (answerSetPad p m s).state :=
  judged_frame (setChannel_frame _ _ _)

theorem answerSetPhantom_frame (p m s) : SameExcept [.channels, .journal] s (answerSetPhantom p m s).state :=
  judged_frame (movePhantom_frame _ _ _ _)

theorem answerReadMeters_frame (p m s) : SameExcept [.meters] s (answerReadMeters p m s).state :=
  judged_frame (SameExcept.foldl (fun _ _ => setMeter_frame _ _ _ _) _ _)

/-! ## Phantom supply monitor (chapter 7) -/

/-- The blocks that a bank's change reaches. -/
abbrev bankBlocks : List Block := [.phantom, .channels, .journal, .faults]

theorem moveBank_frame (a b k s) : SameExcept [.phantom, .journal] s (moveBank a b k s) :=
  (setBank_frame _ _ _).seq (appendEntry_frame _ _ _ _ _)

theorem shedBank_frame (b k s) : SameExcept bankBlocks s (shedBank b k s) :=
  SameExcept.seq (l := [.phantom, .channels, .journal])
    ((moveBank_frame _ _ _ _).seq (SameExcept.foldl shedChan_frame _ _)) (settle_frame _)

theorem retryBank_frame (a b k s) : SameExcept bankBlocks s (retryBank a b k s) :=
  SameExcept.seq (l := [.phantom, .channels, .journal])
    ((moveBank_frame _ _ _ _).seq (SameExcept.foldl retryChan_frame _ _)) (settle_frame _)

theorem holdTimer_frame (b s) : SameExcept [.latch] s (holdTimer b s) := markTaken_frame _ s

theorem takeReading_frame (b n s) : SameExcept (.latch :: bankBlocks) s (takeReading b n s) := by
  unfold takeReading
  dsimp only
  split
  · split
    · exact (shedBank_frame _ _ _).seq (holdTimer_frame _ _)
    · split <;> exact (shedBank_frame _ _ _).seq (holdTimer_frame _ _)
    · exact (setBank_frame _ _ _).mono (by decide)
    · exact (setBank_frame _ _ _).mono (by decide)
  · exact (setBank_frame _ _ _).mono (by decide)

theorem endHoldoff_frame (b s) : SameExcept bankBlocks s (endHoldoff b s) := by
  unfold endHoldoff
  dsimp only
  split
  · exact retryBank_frame _ _ _ _
  · exact (setBank_frame _ _ _).mono (by decide)

theorem endWatch_frame (b s) : SameExcept bankBlocks s (endWatch b s) :=
  (moveBank_frame _ _ _ _).seq (settle_frame _)

theorem advanceBank_frame (b s) : SameExcept bankBlocks s (advanceBank b s) := by
  unfold advanceBank
  dsimp only
  split
  · split
    · exact endHoldoff_frame _ _
    · exact (setBank_frame _ _ _).mono (by decide)
  · split
    · exact endWatch_frame _ _
    · exact (setBank_frame _ _ _).mono (by decide)
  · exact .refl _ _
  · exact .refl _ _

theorem readingWork_frame (s) : SameExcept (.latch :: bankBlocks) s (readingWork s) := takeReading_frame _ _ _

theorem resetBank_frame (p b s) : SameExcept bankBlocks s (resetBank p b s) := by
  unfold resetBank
  dsimp only
  split <;> first | exact retryBank_frame _ _ _ _ | exact .refl _ _

theorem answerPhantomReset_frame (p m s) : SameExcept bankBlocks s (answerPhantomReset p m s).state :=
  judged_frame (resetBank_frame _ _ _)

theorem answerReadPhantom_state (p m s) : (answerReadPhantom p m s).state = s := judged_state (P := (· = s)) rfl rfl

/-! ## Journal (chapter 8) -/

theorem answerReadChanges_state (p m s) : (answerReadChanges p m s).state = s := by
  refine judged_state (P := (· = s)) rfl ?_
  split <;> rfl

theorem answerReadChannels_state (p m s) : (answerReadChannels p m s).state = s := judged_state (P := (· = s)) rfl rfl

/-! ## Outputs (chapter 9) -/

theorem answerSetOutput_frame (p m s) : SameExcept [.outputs, .journal, .faults] s (answerSetOutput p m s).state :=
  judged_frame (SameExcept.seq (l := [.outputs, .faults]) ((setOutputRec_frame _ _ _).seq (settle_frame _))
    (appendEntry_frame _ _ _ _ _))

theorem answerReadOutputs_state (p m s) : (answerReadOutputs p m s).state = s := judged_state (P := (· = s)) rfl rfl

theorem countHoldoff_frame (o s) : SameExcept [.outputs, .faults] s (countHoldoff o s) := by
  unfold countHoldoff
  dsimp only
  split
  · split
    · exact (setOutputRec_frame _ _ _).seq (settle_frame _)
    · exact (setOutputRec_frame _ _ _).mono (by decide)
  · exact .refl _ _

theorem playOutputs_frame (s) : SameExcept [.outputs] s (playOutputs s) := withOutputs_frame _ s

/-! ## Talkback (chapter 10) -/

theorem raiseCallAt_frame (k s p) : SameExcept [.calls] s (raiseCallAt k s p) := by
  unfold raiseCallAt
  split
  · exact setCall_frame _ _ _ _
  · exact .refl _ _

theorem clearCall_frame (k s p) : SameExcept [.calls] s (clearCall k s p) := setCall_frame _ _ _ _

theorem releaseCallAt_frame (k s p) : SameExcept [.calls] s (releaseCallAt k s p) := by
  unfold releaseCallAt
  split
  · exact clearCall_frame _ _ _
  · exact .refl _ _

theorem pressKey_frame (k s) : SameExcept [.keys, .calls] s (pressKey k s) := by
  unfold pressKey
  dsimp only
  split <;> first | exact (setKey_frame _ _ _).seq (SameExcept.foldl (raiseCallAt_frame k) _ _) | exact .refl _ _

theorem releaseKey_frame (k s) : SameExcept [.keys, .calls] s (releaseKey k s) := by
  unfold releaseKey
  dsimp only
  split <;> first
    | exact (setKey_frame _ _ _).seq (SameExcept.foldl (releaseCallAt_frame k) _ _)
    | exact (setKey_frame _ _ _).mono (by decide)
    | exact .refl _ _

theorem leaveArming_frame (k s) : SameExcept [.keys] s (leaveArming k s) := by
  unfold leaveArming
  dsimp only
  split
  · exact setKey_frame _ _ _
  · exact .refl _ _

theorem debounce_frame (k s) : SameExcept [.keys, .calls] s (debounce k s) := by
  unfold debounce
  dsimp only
  split
  · exact (setKey_frame _ _ _).mono (by decide)
  · split
    · split
      · exact (setKey_frame _ _ _).seq (pressKey_frame _ _)
      · exact (setKey_frame _ _ _).seq (releaseKey_frame _ _)
    · exact (setKey_frame _ _ _).mono (by decide)

theorem keyWork_frame (k s) : SameExcept [.keys, .calls] s (keyWork k s) :=
  (debounce_frame _ _).seq (leaveArming_frame _ _)

theorem applyKeyConfig_frame (k old s) : SameExcept [.keys, .calls] s (applyKeyConfig k old s) := by
  unfold applyKeyConfig
  dsimp only
  refine SameExcept.seq (l := [.keys, .calls]) ?_
    (SameExcept.foldl (l := [.calls]) (fun _ _ => .ite (clearCall_frame _ _ _) (.refl _ _)) _ _)
  split
  · exact (setKey_frame _ _ _).seq (SameExcept.foldl (clearCall_frame k) _ _)
  · split
    · exact (setKey_frame _ _ _).mono (by decide)
    · split
      · exact (setKey_frame _ _ _).mono (by decide)
      · exact .refl _ _

theorem ackCall_frame (b p k s) : SameExcept [.calls] s (ackCall b p k s) := by
  unfold ackCall
  dsimp only
  split
  · split
    · exact setCall_frame _ _ _ _
    · exact clearCall_frame _ _ _
  · exact .refl _ _

theorem answerAckCall_frame (before p m s) : SameExcept [.calls] s (answerAckCall before p m s).state :=
  judged_frame (ackCall_frame _ _ _ _)

theorem answerTalk_frame (p m s) : SameExcept [.talkMask] s (answerTalk p m s).state :=
  judged_frame (withTalkMask_frame _ _)

/-! ## Faults (chapter 11) -/

theorem answerClearFaults_frame (p m s) : SameExcept [.faults] s (answerClearFaults p m s).state :=
  judged_frame (withFaults_frame _ _)

theorem answerReadFaults_state (p m s) : (answerReadFaults p m s).state = s := judged_state (P := (· = s)) rfl rfl

theorem countStretch_frame (l s) : SameExcept [.faults] s (countStretch l s) := by
  unfold countStretch
  dsimp only
  split
  · exact .refl _ _
  · exact (withFaults_frame _ _).trans (driveLines_frame _)

/-! ## Stage settings (chapter 8) -/

/-- The blocks that a new value reaches through the block that reads it. -/
abbrev itemBlocks : List Block := [.presence, .paths, .keys, .calls] ++ offlineBlocks

/-- The blocks that an accepted write of a setting reaches. -/
abbrev settingBlocks : List Block := [.settings, .journal] ++ itemBlocks

theorem applyPathEnable_frame (old s) : SameExcept (.paths :: offlineBlocks) s (applyPathEnable old s) :=
  SameExcept.seq (l := .paths :: offlineBlocks)
    (SameExcept.foldl (fun _ _ => SameExcept.foldl (fun _ _ => writePathFlag_frame _ _ _ _ _) _ _) _ _) (settle_frame _)

theorem applyItem_frame (i old s) : SameExcept itemBlocks s (applyItem i old s) := by
  unfold applyItem
  split <;> first
    | exact (reselect_frame _).seq (settle_frame _)
    | exact (applyPathEnable_frame _ _).mono (by decide)
    | exact (applyKeyConfig_frame _ _ _).mono (by decide)
    | exact (driveLines_frame _).mono (by decide)
    | exact (holdTimeout_frame _ _ _).mono (by decide)
    | exact .refl _ _

theorem storeItem_frame (p i v s) : SameExcept [.settings, .journal] s (storeItem p i v s) :=
  (withSettings_frame _ _).seq (appendEntry_frame _ _ _ _ _)

theorem writeItem_frame (p i v s) : SameExcept settingBlocks s (writeItem p i v s).state :=
  (storeItem_frame _ _ _ _).seq (applyItem_frame _ _ _)

theorem answerWriteSetting_frame (p m s) : SameExcept settingBlocks s (answerWriteSetting p m s).state := by
  unfold answerWriteSetting
  dsimp only
  split
  · exact .refl _ _
  · exact judged_frame (writeItem_frame _ _ _ _)

theorem answerReadSettings_state (p m s) : (answerReadSettings p m s).state = s := judged_state (P := (· = s)) rfl rfl

/-! ## Control lane (chapter 3) -/

/-- A read leaves nothing changed. -/
theorem same_of_state {l s} {a : Answer} (h : a.state = s) : SameExcept l s a.state := h ▸ .refl l s

/-- The blocks that a message's own effect can reach. -/
abbrev messageBlocks : List Block :=
  [.presence, .owners, .tracks, .channels, .meters, .phantom, .outputs, .journal, .settings, .paths, .keys, .calls, .merges, .lanes,
   .clock, .talkMask, .faults]

theorem handlerOf_frame (before k p m s) : SameExcept messageBlocks s (handlerOf before k p m s).state := by
  cases k
  case keepalive => exact .refl _ _
  case claimChannels => exact (answerClaimChannels_frame p m s).mono (by decide)
  case releaseChannels => exact (answerReleaseChannels_frame p m s).mono (by decide)
  case claimOutputs => exact (answerClaimOutputs_frame p m s).mono (by decide)
  case releaseOutputs => exact (answerReleaseOutputs_frame p m s).mono (by decide)
  case readOwners => exact same_of_state (answerReadOwners_state p m s)
  case setGain => exact (answerSetGain_frame p m s).mono (by decide)
  case setPad => exact (answerSetPad_frame p m s).mono (by decide)
  case setPhantom => exact (answerSetPhantom_frame p m s).mono (by decide)
  case readMeters => exact (answerReadMeters_frame p m s).mono (by decide)
  case setTrim => exact (answerSetTrim_frame p m s).mono (by decide)
  case setTracking => exact (answerSetTracking_frame p m s).mono (by decide)
  case readTracking => exact same_of_state (answerReadTracking_state p m s)
  case phantomReset => exact (answerPhantomReset_frame p m s).mono (by decide)
  case readPhantom => exact same_of_state (answerReadPhantom_state p m s)
  case readChanges => exact same_of_state (answerReadChanges_state p m s)
  case readChannels => exact same_of_state (answerReadChannels_state p m s)
  case writeSetting => exact (answerWriteSetting_frame p m s).mono (by decide)
  case readSettings => exact same_of_state (answerReadSettings_state p m s)
  case readClock => exact same_of_state (answerReadClock_state p m s)
  case setOutput => exact (answerSetOutput_frame p m s).mono (by decide)
  case readOutputs => exact same_of_state (answerReadOutputs_state p m s)
  case talk => exact (answerTalk_frame p m s).mono (by decide)
  case ackCall => exact (answerAckCall_frame before p m s).mono (by decide)
  case clearFaults => exact (answerClearFaults_frame p m s).mono (by decide)
  case readFaults => exact same_of_state (answerReadFaults_state p m s)

/-- The blocks that a complete message can reach. -/
abbrev deskBlocks : List Block := messageBlocks

theorem completeMessage_frame (p kind m s) : SameExcept deskBlocks s (completeMessage p kind m s) := by
  unfold completeMessage
  split
  · exact (heard_frame p s).mono (by decide)
  · exact (deliver_frame (handlerOf_frame _ _) p kind m s).mono (by decide)
  · exact (deliver_frame (l := []) (fun _ _ s => .refl _ s) p kind m s).mono (by decide)

theorem setAssembly_frame (p a s) : SameExcept [.lanes] s (setAssembly p a s) := setLane_frame _ _ _

theorem dropPartial_frame (p s) : SameExcept [.lanes, .faults] s (dropPartial p s) := by
  unfold dropPartial
  split
  · exact .refl _ _
  · dsimp only
    split
    · exact (setAssembly_frame _ _ _).seq (raiseAt_frame _ _ _)
    · exact (setAssembly_frame _ _ _).mono (by decide)

theorem finishMessage_frame (p a s) : SameExcept deskBlocks s (finishMessage p a s) := by
  unfold finishMessage
  dsimp only
  split
  · exact (setAssembly_frame _ _ _).seq (completeMessage_frame _ _ _ _)
  · exact (setAssembly_frame _ _ _).mono (by decide)

theorem takeHead_frame (p w s) : SameExcept deskBlocks s (takeHead p w s) := by
  unfold takeHead
  dsimp only
  have h : SameExcept deskBlocks s (setAssembly p (some (headAssembly s.unitAddr w)) (dropPartial p s)) :=
    (dropPartial_frame _ _).seq (setAssembly_frame _ _ _)
  split
  · exact h.trans (finishMessage_frame _ _ _)
  · exact h

theorem takeBody_frame (p w s) : SameExcept deskBlocks s (takeBody p w s) := by
  unfold takeBody
  split
  · exact (raiseAt_frame _ _ _).mono (by decide)
  · dsimp only
    split
    · exact finishMessage_frame _ _ _
    · exact (setAssembly_frame _ _ _).mono (by decide)

theorem takeWord_frame (p w s) : SameExcept deskBlocks s (takeWord p w s) := by
  unfold takeWord
  split
  · exact .refl _ _
  · exact takeHead_frame _ _ _
  · exact takeBody_frame _ _ _
  · exact (dropPartial_frame _ _).mono (by decide)

theorem takeWords_frame (p ws s) : SameExcept deskBlocks s (takeWords p ws s) :=
  SameExcept.foldl (fun _ _ => .ite (takeWord_frame _ _ _) (.refl _ _)) _ _

/-! ## Upstream frames -/

theorem takeReplies_frame (p s) : SameExcept [.lanes] s (takeReplies p s) := setLane_frame _ _ _

theorem markSendClips_frame (p s) : SameExcept [.meters] s (markSendClips p s) := withMeters_frame _ _

theorem buildFrame_frame (s p) : SameExcept [.meters, .lanes, .sent] s (buildFrame s p) := by
  unfold buildFrame
  dsimp only
  exact SameExcept.seq (l := [.meters, .lanes]) ((markSendClips_frame _ _).seq (takeReplies_frame _ _)) (withSent_frame _ _)

theorem buildFrames_frame (s) : SameExcept [.meters, .lanes, .sent, .frameNo] s (buildFrames s) :=
  (SameExcept.foldl buildFrame_frame _ _).seq (withFrameNo_frame _ _)

/-! ## Playout and the boundary -/

theorem resyncWindow_frame (p s) : SameExcept [.merges, .faults] s (resyncWindow p s) :=
  (setMerge_frame _ _ _).seq (raiseAll_frame _ _)

theorem setHandoff_frame (p h s) : SameExcept [.latch] s (setHandoff p h s) := withLatch_frame _ _

/-- The blocks that a playout can reach. -/
abbrev playoutBlocks : List Block := .latch :: deskBlocks

theorem deliverFrame_frame (p c s) : SameExcept playoutBlocks s (deliverFrame p c s) := by
  unfold deliverFrame
  dsimp only
  have h : SameExcept playoutBlocks s
      (settle (followOutputs s (setHandoff p (deliveredAudio c) (setMerge p (delivered c (s.merges.get p)) s)))) := by
    refine SameExcept.seq (l := [.merges, .latch, .outputs]) ?_ (settle_frame _)
    exact SameExcept.seq (l := [.merges, .latch]) ((setMerge_frame _ _ _).seq (setHandoff_frame _ _ _))
      (followOutputs_frame _ _)
  split
  · exact h.seq (takeWords_frame _ _ _)
  · exact h.seq (dropPartial_frame _ _)

theorem missFrame_frame (p s) : SameExcept [.latch, .merges, .faults, .lanes] s (missFrame p s) := by
  unfold missFrame
  dsimp only
  refine SameExcept.seq (l := [.latch, .merges, .faults]) ?_ (dropPartial_frame _ _)
  refine SameExcept.ite ?_ (SameExcept.ite ?_ ?_)
  · exact (setHandoff_frame _ _ _).seq (setMerge_frame _ _ _)
  · exact SameExcept.seq (l := [.latch, .merges]) ((setHandoff_frame _ _ _).seq (setMerge_frame _ _ _))
      (resyncWindow_frame _ _)
  · exact (setHandoff_frame _ _ _).seq (setMerge_frame _ _ _)

theorem playFrame_frame (p s) : SameExcept playoutBlocks s (playFrame p s) := by
  unfold playFrame
  dsimp only
  split
  · exact (missFrame_frame _ _).mono (by decide)
  · split
    · exact deliverFrame_frame _ _ _
    · exact (missFrame_frame _ _).mono (by decide)

theorem playout_frame (p s) : SameExcept playoutBlocks s (playout p s) := by
  unfold playout
  split
  · exact (setHandoff_frame _ _ _).mono (by decide)
  · split
    · exact .refl _ _
    · exact playFrame_frame _ _

theorem bankWork_frame (b s) : SameExcept (.latch :: bankBlocks) s (bankWork b s) := by
  have h : SameExcept (.latch :: bankBlocks) s
      (if s.phantom.scan == b && fresh .reading s then markTaken .reading (readingWork s) else s) :=
    SameExcept.ite ((readingWork_frame _).seq (markTaken_frame _ _)) (.refl _ _)
  unfold bankWork
  dsimp only
  exact .ite (h.seq (advanceBank_frame _ _)) h

/-- The blocks that the work of a boundary can reach: all but RSTN, the address, the signals and the queue. -/
abbrev workBlocks : List Block := .frameNo :: .sent :: playoutBlocks

theorem workEffect_frame (w s) : SameExcept workBlocks s (workEffect w s) := by
  cases w
  case score => exact (scorePath_frame _ _ _).mono (by decide)
  case playout => exact (playout_frame _ _).mono (by decide)
  case presence => exact (countPresence_frame _ _).mono (by decide)
  case capture => exact (captureFrame_frame _ _).mono (by decide)
  case mute => exact (countMute_frame _ _).mono (by decide)
  case reading => exact (readingWork_frame _).mono (by decide)
  case bank => exact (bankWork_frame _ _).mono (by decide)
  case holdoff => exact (countHoldoff_frame _ _).mono (by decide)
  case key => exact (keyWork_frame _ _).mono (by decide)
  case build => exact (buildFrames_frame _).mono (by decide)
  case stretch => exact (countStretch_frame _ _).mono (by decide)

theorem takeWork_frame (s w) : SameExcept workBlocks s (takeWork s w) := by
  unfold takeWork
  split
  · exact (workEffect_frame _ _).seq (markTaken_frame _ _)
  · exact .refl _ _

theorem openBoundary_frame (s) : SameExcept [.clock] s (openBoundary s) := by
  unfold openBoundary
  split
  · exact withClock_frame _ _
  · exact .refl _ _

theorem latchInputs_frame (i s) : SameExcept [.latch] s (latchInputs i s) := withLatch_frame _ _

theorem latchCapture_frame (c f s) : SameExcept [.latch] s (latchCapture c f s) := withLatch_frame _ _

theorem latchKey_frame (k b s) : SameExcept [.latch] s (latchKey k b s) := withLatch_frame _ _

theorem latchRail_frame (n s) : SameExcept [.latch] s (latchRail n s) := withLatch_frame _ _

theorem fixPeriods_frame (s) : SameExcept [.tracks] s (fixPeriods s) := withTracks_frame _ _

theorem endBoundary_frame (s) : SameExcept [.outputs, .tracks, .phantom, .latch] s (endBoundary s) := by
  unfold endBoundary
  dsimp only
  refine SameExcept.seq (l := [.outputs, .tracks, .phantom]) ?_ (withLatch_frame _ _)
  exact SameExcept.seq (l := [.outputs, .tracks]) ((playOutputs_frame _).seq (fixPeriods_frame _)) (withPhantom_frame _ _)

theorem boundary_frame (i s) : SameExcept workBlocks s (boundary i s) := by
  unfold boundary
  refine SameExcept.seq (l := workBlocks) ?_ (endBoundary_frame _)
  exact SameExcept.seq (l := [.clock, .latch]) ((openBoundary_frame _).seq (latchInputs_frame _ _))
    (SameExcept.foldl takeWork_frame _ _)

/-- One unit of work taken by itself changes the marks of the boundary, the clock's pending switch, and what the work
changes. -/
theorem oneUnit_frame {l : List Block} (w happens latch s) (hl : ∀ s, SameExcept [.latch] s (latch s))
    (hw : ∀ s, SameExcept l s (workEffect w s)) : SameExcept (.latch :: .clock :: l) s (oneUnit w happens latch s) := by
  unfold oneUnit Machine.onlyIf
  split
  · refine SameExcept.trans (t := latch (openBoundary s)) ?_ ?_
    · exact SameExcept.trans ((openBoundary_frame s).mono (by simp)) ((hl _).mono (by simp))
    · exact .ite (((hw _).mono (by simp +contextual)).trans ((markTaken_frame _ _).mono (by simp))) (.refl _ _)
  · exact .refl _ _

end Sys2Proof.Safety
end

