-- ==== Sys2Proof/Laws/Induction.lean ====
section
/-! SUPPORT. The one case analysis over all commands that a rule of every state needs: a property that each of the part's
operations keeps is kept by every command and by every step. -/
namespace Sys2Proof.Safety

open Sys2Proof.Machine

/-- A property that looks at the listed blocks only. -/
def Reads (l : List Block) (I : State → Prop) : Prop := ∀ s t, (∀ b ∈ l, b.kept s t) → I s → I t

/-- A property is kept by an operation that changes none of the blocks it looks at. -/
theorem Reads.kept {l k : List Block} {I : State → Prop} (hI : Reads l I) {s t : State} (h : SameExcept k s t) (hs : I s)
    (hd : ∀ b ∈ l, b ∉ k := by decide) : I t := hI s t (fun b hb => h b (hd b hb)) hs

/-- What the operations have to keep for every command to keep it. -/
structure KeptByOperations (I : State → Prop) : Prop where
  queue : ∀ v s, I s → I (s.withPending v)
  reset : ∀ straps sig q, I (((State.reset.withUnitAddr straps).withSignal sig).withPending q)
  rstnLow : ∀ s t, execRstnLow s = .next t → I s → I t
  signal : ∀ v s, I s → I (s.withSignal v)
  latch : ∀ v s, I s → I (s.withLatch v)
  openBoundary : ∀ s, I s → I (openBoundary s)
  arriveFrame : ∀ p x f s, I s → I (arriveFrame p x f s)
  loseSignal : ∀ p x s, I s → I (loseSignal p x s)
  returnSignal : ∀ p x s, I s → I (returnSignal p x s)
  matchSync : ∀ p x bits s, I s → I (matchSync p x bits s)
  examineNext : ∀ p x next s, I s → I (examineNext p x next s)
  completeInterval : ∀ p n s, measuring s p = true → I s → I (completeInterval p n s)
  scorePath : ∀ p x s, I s → I (scorePath p x s)
  deliverAudio : ∀ p c s, online s p = true → (s.merges.get p).slots[0] = some c → (s.merges.get p).hunting = false →
    I s → I (settle (followOutputs s (setHandoff p (deliveredAudio c) (setMerge p (delivered c (s.merges.get p)) s))))
  missFrame : ∀ p s, online s p = true → I s → I (missFrame p s)
  dropPartial : ∀ p s, I s → I (dropPartial p s)
  setAssembly : ∀ p a s, online s p = true → I s → I (setAssembly p a s)
  raiseAt : ∀ k p s, I s → I (raiseAt k p s)
  heard : ∀ p s, I s → I (heard p s)
  deliver : ∀ k p kind m s, online s p = true → I s → I (deliver p kind m (handlerOf s k) s)
  countPresence : ∀ p s, I s → I (countPresence p s)
  captureFrame : ∀ c s, I s → I (captureFrame c s)
  countMute : ∀ c s, I s → I (countMute c s)
  readingWork : ∀ s, I s → I (readingWork s)
  advanceBank : ∀ b s, I s → I (advanceBank b s)
  countHoldoff : ∀ o s, I s → I (countHoldoff o s)
  keyWork : ∀ k s, I s → I (keyWork k s)
  buildFrames : ∀ s, I s → I (buildFrames s)
  countStretch : ∀ l s, I s → I (countStretch l s)
  endBoundary : ∀ s, I s → I (endBoundary s)

/-- A property that a step of a fold keeps is kept by the fold. -/
theorem foldl_keeps {α : Type} {I : State → Prop} {f : State → α → State} (h : ∀ s a, I s → I (f s a)) (xs : List α)
    (s : State) (hs : I s) : I (xs.foldl f s) := by
  induction xs generalizing s with
  | nil => exact hs
  | cons x xs ih => exact ih _ (h s x hs)

/-- The port state of a state whose paths are the same. -/
theorem online_of_paths {s t : State} (h : t.paths = s.paths) (p : Port) : online t p = online s p := by
  unfold online pathRec; rw [h]

/-- A delivery keeps a property that being heard, an overrun, the handler and the reply each keep. -/
theorem deliver_keeps {I : State → Prop} {p : Port} {kind m} {handler : Port → Msg → State → Answer} {s : State}
    (hheard : I (heard p s)) (hraise : ∀ s, I s → I (raiseAt .replyOverrun p s))
    (hhandler : I (heard p s) → I (handler p m (heard p s)).state)
    (hqueue : ∀ tag a, I a.state → I (enqueue p kind tag a)) : I (deliver p kind m handler s) := by
  unfold Machine.deliver
  dsimp only
  split
  · exact hraise _ hheard
  · exact hqueue _ _ (hhandler hheard)

/-- Nothing is taken in ahead of the boundary. -/
theorem noLatch (s : State) : ∃ v, id s = s.withLatch v := ⟨s.latch, rfl⟩

theorem running_keeps {I : State → Prop} {s t : State} {f : State → State} (hf : ∀ s, I s → I (f s)) (he : whileRunning s f = .next t) (hs : I s) :
    I t := by
  unfold whileRunning at he
  cases he
  split
  · exact hf _ hs
  · exact hs

namespace KeptByOperations

variable {I : State → Prop} (h : KeptByOperations I)
include h

theorem completeMessage {p : Port} {kind m} {s : State} (ho : online s p = true) (hs : I s) :
    I (completeMessage p kind m s) := by
  unfold Machine.completeMessage
  split
  · exact h.heard _ _ hs
  · exact h.deliver _ _ _ _ _ ho hs
  · exact h.deliver .keepalive _ _ _ _ ho hs

theorem finishMessage {p : Port} {a} {s : State} (ho : online s p = true) (hs : I s) : I (finishMessage p a s) := by
  unfold Machine.finishMessage
  dsimp only
  have h1 := h.setAssembly p none s ho hs
  split
  · refine h.completeMessage ?_ h1
    rw [online_of_paths (setAssembly_frame p none s .paths (by decide))]
    exact ho
  · exact h1

theorem takeWord {p : Port} {w} {s : State} (ho : online s p = true) (hs : I s) : I (takeWord p w s) := by
  unfold Machine.takeWord
  split
  · exact hs
  · unfold takeHead
    dsimp only
    have ho1 : online (Machine.dropPartial p s) p = true := by
      rw [online_of_paths (dropPartial_frame p s .paths (by decide))]
      exact ho
    have h1 := h.setAssembly p (some (headAssembly s.unitAddr w)) _ ho1 (h.dropPartial p s hs)
    split
    · refine h.finishMessage ?_ h1
      rw [online_of_paths (setAssembly_frame _ _ _ .paths (by decide))]
      exact ho1
    · exact h1
  · unfold takeBody
    split
    · exact h.raiseAt _ _ _ hs
    · dsimp only
      split
      · exact h.finishMessage ho hs
      · exact h.setAssembly _ _ _ ho hs
  · exact h.dropPartial _ _ hs

theorem takeWords (p : Port) (ws : List Word) (s : State) (hs : I s) : I (takeWords p ws s) := by
  refine foldl_keeps (fun s w hs => ?_) ws s hs
  split
  · rename_i ho
    exact h.takeWord ho hs
  · exact hs

theorem markTaken (w : Work) (s : State) (hs : I s) : I (markTaken w s) := h.latch _ _ hs

theorem playout (p : Port) (s : State) (hs : I s) : I (playout p s) := by
  unfold Machine.playout
  split
  · exact h.latch _ _ hs
  · rename_i ho
    simp only [Bool.not_eq_true, Bool.not_eq_false'] at ho
    split
    · exact hs
    · unfold playFrame
      dsimp only
      split
      · exact h.missFrame _ _ ho hs
      · rename_i hh
        split
        · rename_i c hc
          unfold deliverFrame
          dsimp only
          have h1 := h.deliverAudio p c s ho hc (by simpa using hh) hs
          split
          · exact h.takeWords _ _ _ h1
          · exact h.dropPartial _ _ h1
        · exact h.missFrame _ _ ho hs

theorem bankWork (b : BankId) (s : State) (hs : I s) : I (bankWork b s) := by
  have h1 : I (if s.phantom.scan == b && fresh .reading s then Machine.markTaken .reading (Machine.readingWork s) else s) := by
    split
    · exact h.markTaken _ _ (h.readingWork _ hs)
    · exact hs
  unfold Machine.bankWork
  dsimp only
  generalize (if s.phantom.scan == b && fresh .reading s then Machine.markTaken .reading (Machine.readingWork s) else s) = t at *
  split
  · exact h.advanceBank _ _ h1
  · exact h1

theorem workEffect (w : Work) (s : State) (hs : I s) : I (workEffect w s) := by
  cases w
  case score => exact h.scorePath _ _ _ hs
  case playout => exact h.playout _ _ hs
  case presence => exact h.countPresence _ _ hs
  case capture => exact h.captureFrame _ _ hs
  case mute => exact h.countMute _ _ hs
  case reading => exact h.readingWork _ hs
  case bank => exact h.bankWork _ _ hs
  case holdoff => exact h.countHoldoff _ _ hs
  case key => exact h.keyWork _ _ hs
  case build => exact h.buildFrames _ hs
  case stretch => exact h.countStretch _ _ hs

theorem takeWork (s : State) (w : Work) (hs : I s) : I (takeWork s w) := by
  unfold Machine.takeWork
  split
  · exact h.markTaken _ _ (h.workEffect _ _ hs)
  · exact hs

theorem boundary (i : BoundaryInput) (s : State) (hs : I s) : I (boundary i s) :=
  h.endBoundary _ (foldl_keeps (fun s w hs => h.takeWork s w hs) _ _ (h.latch _ _ (h.openBoundary _ hs)))

theorem oneUnit {w : Work} {happens : State → Bool} {latch : State → State} {s : State}
    (hl : ∀ s, ∃ v, latch s = s.withLatch v) (hs : I s) : I (oneUnit w happens latch s) := by
  unfold Machine.oneUnit onlyIf
  split
  · refine h.takeWork _ _ ?_
    obtain ⟨v, hv⟩ := hl (Machine.openBoundary s)
    rw [hv]
    exact h.latch _ _ (h.openBoundary _ hs)
  · exact hs

theorem message {p : Port} {kind m} {k : Kind} {s t : State}
    (he : whileRunning s (fromDesk p fun s => Machine.deliver p kind m (handlerOf s k) s) = .next t) (hs : I s) :
    I t := by
  refine running_keeps (fun s hs => ?_) he hs
  unfold fromDesk onlyIf
  split
  · rename_i ho
    exact h.deliver _ _ _ _ _ ho hs
  · exact hs

end KeptByOperations

/-- What every operation keeps, every command keeps. -/
theorem KeptByOperations.exec {I : State → Prop} (h : KeptByOperations I) {c : Instr} {s t : State}
    (he : exec c s = .next t) (hs : I s) : I t := by
  cases c <;> simp only [Machine.exec] at he
  case reset straps => cases he; exact h.reset _ _ _
  case frameArrival => exact running_keeps (h.arriveFrame _ _ _) he hs
  case lossOfSignal =>
    cases he
    split
    · exact h.loseSignal _ _ _ hs
    · exact h.signal _ _ hs
  case signalReturn =>
    cases he
    split
    · exact h.returnSignal _ _ _ hs
    · exact h.signal _ _ hs
  case stageFrameBoundary => exact running_keeps (h.boundary _) he hs
  case pathUp => exact running_keeps (fun _ => h.oneUnit noLatch) he hs
  case acquireMissDark => exact running_keeps (fun _ => h.oneUnit noLatch) he hs
  case pathDark => exact running_keeps (fun _ => h.oneUnit noLatch) he hs
  case degradeBlockJudged => exact running_keeps (fun _ => h.oneUnit noLatch) he hs
  case resync => exact running_keeps (fun _ => h.oneUnit noLatch) he hs
  case unknownKindMessage =>
    refine running_keeps (fun s hs => ?_) he hs
    unfold fromDesk onlyIf
    split
    · rename_i ho
      exact h.completeMessage ho hs
    · exact hs
  case keepalive =>
    refine running_keeps (fun s hs => ?_) he hs
    unfold fromDesk onlyIf
    split
    · exact h.heard _ _ hs
    · exact hs
  case claimChannels => exact h.message (k := .claimChannels) he hs
  case releaseChannels => exact h.message (k := .releaseChannels) he hs
  case claimOutputs => exact h.message (k := .claimOutputs) he hs
  case releaseOutputs => exact h.message (k := .releaseOutputs) he hs
  case readOwners => exact h.message (k := .readOwners) he hs
  case setGain => exact h.message (k := .setGain) he hs
  case setPad => exact h.message (k := .setPad) he hs
  case setPhantom => exact h.message (k := .setPhantom) he hs
  case readMeters => exact h.message (k := .readMeters) he hs
  case setTrim => exact h.message (k := .setTrim) he hs
  case setTracking => exact h.message (k := .setTracking) he hs
  case readTracking => exact h.message (k := .readTracking) he hs
  case phantomReset => exact h.message (k := .phantomReset) he hs
  case readPhantom => exact h.message (k := .readPhantom) he hs
  case readChanges => exact h.message (k := .readChanges) he hs
  case readChannels => exact h.message (k := .readChannels) he hs
  case writeClockPriority => exact h.message (k := .writeSetting) he hs
  case writePathEnable => exact h.message (k := .writeSetting) he hs
  case writePresenceTimeout => exact h.message (k := .writeSetting) he hs
  case writePresencePolicy => exact h.message (k := .writeSetting) he hs
  case writePhantomTrip => exact h.message (k := .writeSetting) he hs
  case writeKeyConfig => exact h.message (k := .writeSetting) he hs
  case writeTalkSource => exact h.message (k := .writeSetting) he hs
  case writeStageTalkLevel => exact h.message (k := .writeSetting) he hs
  case writeDuckDepth => exact h.message (k := .writeSetting) he hs
  case writeAlarmMap => exact h.message (k := .writeSetting) he hs
  case readSettings => exact h.message (k := .readSettings) he hs
  case readClock => exact h.message (k := .readClock) he hs
  case setOutput => exact h.message (k := .setOutput) he hs
  case readOutputs => exact h.message (k := .readOutputs) he hs
  case talk => exact h.message (k := .talk) he hs
  case ackCall => exact h.message (k := .ackCall) he hs
  case clearFaults => exact h.message (k := .clearFaults) he hs
  case readFaults => exact h.message (k := .readFaults) he hs
  case intervalComplete =>
    unfold execIntervalComplete whileRunning onlyIf at he
    cases he
    split
    · split
      · rename_i hm
        exact h.completeInterval _ _ _ hm hs
      · exact hs
    · exact hs
  case presenceExpiry => exact running_keeps (fun _ => h.oneUnit noLatch) he hs
  case forcedStep => exact running_keeps (fun _ => h.oneUnit fun _ => ⟨_, rfl⟩) he hs
  case muteCounterExpiry => exact running_keeps (fun _ => h.oneUnit noLatch) he hs
  case phantomReading => exact running_keeps (fun _ => h.oneUnit fun _ => ⟨_, rfl⟩) he hs
  case holdoffEnd => exact running_keeps (fun _ => h.oneUnit noLatch) he hs
  case retryWatchEnd => exact running_keeps (fun _ => h.oneUnit noLatch) he hs
  case outputHoldoffEnd => exact running_keeps (fun _ => h.oneUnit noLatch) he hs
  case debouncedPress => exact running_keeps (fun _ => h.oneUnit fun _ => ⟨_, rfl⟩) he hs
  case debouncedRelease => exact running_keeps (fun _ => h.oneUnit fun _ => ⟨_, rfl⟩) he hs
  case stretchTimerExpiry => exact running_keeps (fun _ => h.oneUnit noLatch) he hs
  case rstnLow => exact h.rstnLow _ _ he hs
  case syncWordMatch => exact running_keeps (h.matchSync _ _ _) he hs
  case returnToHunting => exact running_keeps (h.examineNext _ _ _) he hs
  case writeSettingBadItem => exact h.message (k := .writeSetting) he hs

/-- What every operation keeps, every step keeps. -/
theorem KeptByOperations.step {I : State → Prop} (h : KeptByOperations I) {s t : State} (he : step s = .next t)
    (hs : I s) : I t := by
  unfold Machine.step at he
  split at he
  · cases he; exact hs
  · exact h.exec he (h.queue _ _ hs)

end Sys2Proof.Safety
end

