-- ==== Sys2Proof/Laws/Faults.lean ====
section
/-! SUPPORT. What the fault block's operations do: a report of conditions, an event, a re-evaluation of the lines. -/
namespace Sys2Proof.Safety

open Sys2Proof.Machine

/-- The blocks that the conditions are judged from. -/
abbrev conditionBlocks : List Block := [.paths, .clock, .settings, .phantom, .outputs, .presence, .tracks]

/-- The conditions look at nothing else. -/
theorem conditionsOf_congr {s t : State} (h : ∀ b ∈ conditionBlocks, b.kept s t) (p : Port) :
    conditionsOf t p = conditionsOf s p := by
  have hp : t.paths = s.paths := h .paths (by decide)
  have hc : t.clock = s.clock := h .clock (by decide)
  have hs : t.settings = s.settings := h .settings (by decide)
  have hb : t.phantom = s.phantom := h .phantom (by decide)
  have ho : t.outputs = s.outputs := h .outputs (by decide)
  have hq : t.presence = s.presence := h .presence (by decide)
  have ht : t.tracks = s.tracks := h .tracks (by decide)
  have : ∀ k, conditionHolds t p k = conditionHolds s p k := by
    intro k
    cases k <;> simp only [conditionHolds, pathLossHolds, pathDegradedHolds, clockFallbackHolds, phantomShedHolds,
      outputFailoverHolds, deskAbsentHolds, somePathEnabled, trackLimitHolds, anyPath, hp, hc, hs, hb, ho, hq, ht]
  simp only [conditionsOf, this]

/-- A test of every entry of a vector comes out alike where it does for each entry. -/
theorem any_congr {α : Type} {n : Nat} {v w : Vector α n} {f : α → Bool} (h : ∀ i : Fin n, f v[i] = f w[i]) :
    v.toList.any f = w.toList.any f := by
  have : v.toList.map f = w.toList.map f := by
    apply List.ext_getElem
    · simp
    · intro i h1 h2
      simp only [List.length_map, Vector.length_toList] at h1
      simpa using h ⟨i, h1⟩
  have key (l : List α) : l.any f = (l.map f).any id := by simp [List.any_map]
  rw [key, key, this]

/-- The conditions look at the states of the paths, the source, two settings, the banks' states, the outputs' primaries
and selections, presence, and the limited flags: at nothing else. -/
theorem conditionsOf_congr_fields {s t : State}
    (hpath : ∀ p x, ((t.paths.get p).get x).state = ((s.paths.get p).get x).state)
    (hsource : t.clock.source = s.clock.source) (hpriority : t.settings.clockPriority = s.settings.clockPriority)
    (henable : t.settings.pathEnable = s.settings.pathEnable)
    (hbank : ∀ b : BankId, t.phantom.banks[b].state = s.phantom.banks[b].state)
    (hout : ∀ o : OutId, t.outputs[o].primary = s.outputs[o].primary ∧ t.outputs[o].sel = s.outputs[o].sel)
    (hpresent : ∀ p, (t.presence.get p).present = (s.presence.get p).present)
    (hlimited : ∀ p (c : Chan), (t.tracks.get p)[c].limited = (s.tracks.get p)[c].limited) (p : Port) :
    conditionsOf t p = conditionsOf s p := by
  have : ∀ k, conditionHolds t p k = conditionHolds s p k := by
    intro k
    cases k <;> simp only [conditionHolds]
    · simp [pathLossHolds, anyPath, ports, pathNames, hpath]
    · simp [pathDegradedHolds, anyPath, ports, pathNames, hpath]
    · simp only [clockFallbackHolds, hpriority, hsource]
    · exact any_congr fun b => by rw [hbank]
    · exact any_congr fun o => by rw [(hout o).1, (hout o).2]
    · simp [deskAbsentHolds, somePathEnabled, ports, henable, hpresent]
    · exact any_congr fun c => by rw [hlimited]
  simp only [conditionsOf, this]

/-- The conditions are the same after an operation that changes none of the blocks they are judged from. -/
theorem conditionsOf_frame {k : List Block} {s t : State} (h : SameExcept k s t) (p : Port)
    (hd : ∀ b ∈ conditionBlocks, b ∉ k := by decide) : conditionsOf t p = conditionsOf s p :=
  conditionsOf_congr (fun b hb => h b (hd b hb)) p

/-- Only kinds 0 to 6 are condition kinds, so only they can be active. -/
theorem conditionsOf_kinds (s : State) (p : Port) : conditionsOf s p &&& ~~~ conditionKinds = 0 := by
  have h : ∀ a b c d e f g : Bool,
      BitVec.ofNat 12 (a.toNat * 1 + (b.toNat * 2 + (c.toNat * 4 + (d.toNat * 8 + (e.toNat * 16 + (f.toNat * 32
        + (g.toNat * 64 + 0))))))) &&& ~~~ 0x07F#12 = 0 := by decide
  have e3 : (3 : Fin 12).val = 3 := rfl
  have e4 : (4 : Fin 12).val = 4 := rfl
  have e5 : (5 : Fin 12).val = 5 := rfl
  have e6 : (6 : Fin 12).val = 6 := rfl
  simpa [conditionsOf, conditionKinds, faultKinds, flagAt, faultNo, conditionHolds, e3, e4, e5, e6] using
    h (pathLossHolds s) (pathDegradedHolds s) (clockFallbackHolds s) (phantomShedHolds s) (outputFailoverHolds s)
      (deskAbsentHolds s) (trackLimitHolds s p)

/-- A line's being driven depends on its stretch timer, the active conditions and the map. -/
theorem lineDriven_congr {s t : State} (h1 : t.faults.stretch = s.faults.stretch)
    (h2 : t.faults.active = s.faults.active) (h3 : t.settings = s.settings) (l : Line) :
    lineDriven t l = lineDriven s l := by
  simp only [lineDriven, lineOf, h1, h2, h3]

@[simp] theorem driveLines_active (s : State) : (driveLines s).faults.active = s.faults.active := rfl
@[simp] theorem driveLines_sticky (s : State) : (driveLines s).faults.sticky = s.faults.sticky := rfl
@[simp] theorem driveLines_stretch (s : State) : (driveLines s).faults.stretch = s.faults.stretch := rfl

@[simp] theorem driveLines_driven (s : State) (l : Line) : (driveLines s).faults.driven.get l = lineDriven s l :=
  PerLine.get_of _ _

@[simp] theorem settle_active (s : State) (p : Port) : (settle s).faults.active.get p = conditionsOf s p :=
  PerPort.get_of _ _

/-- A report sets the flags of the conditions that have become active, and no other (R180). -/
@[simp] theorem settle_sticky (s : State) (p : Port) :
    (settle s).faults.sticky.get p = s.faults.sticky.get p ||| (conditionsOf s p &&& ~~~ s.faults.active.get p) :=
  PerPort.get_of _ _

@[simp] theorem settle_stretch (s : State) : (settle s).faults.stretch = s.faults.stretch := rfl

@[simp] theorem settle_driven (s : State) (l : Line) : (settle s).faults.driven.get l = lineDriven (settle s) l :=
  PerLine.get_of _ _

/-- A report changes no condition. -/
@[simp] theorem conditionsOf_settle (s : State) (p : Port) : conditionsOf (settle s) p = conditionsOf s p :=
  conditionsOf_frame (settle_frame s) p

@[simp] theorem raiseFor_active (scope k s) : (raiseFor scope k s).faults.active = s.faults.active := rfl

/-- An event sets its kind's flag in the copies of its scope, and no other (R180). -/
@[simp] theorem raiseFor_sticky (scope k s) (p : Port) :
    (raiseFor scope k s).faults.sticky.get p
      = if scope p then s.faults.sticky.get p ||| faultBit k else s.faults.sticky.get p :=
  PerPort.get_of _ _

/-- An event stretches the line its kind is mapped to (R186). -/
@[simp] theorem raiseFor_stretch (scope k s) :
    (raiseFor scope k s).faults.stretch = match lineOf s k with
      | some l => s.faults.stretch.set l 6000
      | none => s.faults.stretch := rfl

@[simp] theorem raiseFor_driven (scope k s) (l : Line) :
    (raiseFor scope k s).faults.driven.get l = lineDriven (raiseFor scope k s) l :=
  PerLine.get_of _ _

/-- After a report a copy holds what it held and what the conditions are: the rule of the copies (R181). -/
theorem settle_keeps_copies {s : State} (p : Port) (h : s.faults.active.get p &&& ~~~ s.faults.sticky.get p = 0) :
    (settle s).faults.active.get p &&& ~~~ (settle s).faults.sticky.get p = 0 := by
  rw [settle_active, settle_sticky]
  ext i hi
  have := congrArg (fun v : BitVec 12 => v[i]) h
  simp only [BitVec.getElem_and, BitVec.getElem_not, BitVec.getElem_or] at this ⊢
  revert this
  cases (s.faults.active.get p)[i] <;> cases (s.faults.sticky.get p)[i] <;> cases (conditionsOf s p)[i] <;> simp

end Sys2Proof.Safety
end

