-- ==== Sys2Proof/Tests/Slice0.lean ====
section
/-! SUPPORT. Small tests of single steps, their expected results from the worked sequences and tables of spec/, and for
every statement with hypotheses a witness that meets them. -/
namespace Sys2Proof.Tests

open Sys2Proof.Machine Sys2Proof.Safety

set_option Elab.async false

/-! ## Helpers -/

/-- The state a command leads to. -/
def after (c : Instr) (s : State) : State :=
  match exec c s with
  | .next t => t
  | _ => s

/-- After reset, with path A of P0 UP. -/
def up0 : State := State.reset.withPaths (pathsWith .p0 .a (bareReceiver .up .hunting) State.reset)

/-- The same with path A of P1 UP too. -/
def up01 : State := up0.withPaths (pathsWith .p1 .a (bareReceiver .up .hunting) up0)

/-- A state with every channel and output owned by a port. -/
def ownedBy (p : Port) (s : State) : State :=
  s.withOwners { chan := Vector.replicate 48 (some p), out := Vector.replicate 16 (some p) }

/-- A state with a port's path record changed. -/
def withPath (p : Port) (x : PathName) (f : PathRec → PathRec) (s : State) : State :=
  s.withPaths (pathsWith p x (f ((s.paths.get p).get x)) s)

/-- A state with a port's merge changed. -/
def withMerge (p : Port) (f : Merge → Merge) (s : State) : State := s.withMerges (s.merges.set p (f (s.merges.get p)))

/-- A state with a port's clock monitor changed. -/
def withMonitor (p : Port) (f : Monitor → Monitor) (s : State) : State :=
  s.withClock { s.clock with monitors := s.clock.monitors.set p (f (s.clock.monitors.get p)) }

/-- A state with a channel changed. -/
def withChannel (c : Chan) (f : Channel → Channel) (s : State) : State := s.withChannels (vset s.channels c (f s.channels[c]))

/-- A state with a bank changed. -/
def withBank (b : BankId) (f : Bank → Bank) (s : State) : State :=
  s.withPhantom { s.phantom with banks := vset s.phantom.banks b (f s.phantom.banks[b]) }

/-- A state with an output changed. -/
def withOutput (i : OutId) (f : Output → Output) (s : State) : State := s.withOutputs (vset s.outputs i (f s.outputs[i]))

/-- A state with a key changed. -/
def withKey (k : KeyId) (f : Key → Key) (s : State) : State := s.withKeys (vset s.keys k (f s.keys[k]))

/-- A state with the units taken of the boundary now falling replaced. -/
def withTaken (taken : List Work) (s : State) : State := s.withLatch { s.latch with taken := taken }

/-- A state with the settings changed. -/
def withSetting (f : Settings → Settings) (s : State) : State := s.withSettings (f s.settings)

/-- A state whose P0 queue holds `n` empty replies. -/
def queued (n : Nat) (s : State) : State :=
  s.withLanes (s.lanes.set .p0 { s.lanes.p0 with queue := List.replicate n ⟨20, 0, .done, []⟩ })

/-- The last reply of P0, its code and BODY words. -/
def reply0 (s : State) : Option (Code × List Payload) := s.lanes.p0.queue.getLast?.map fun r => (r.code, r.body)

/-- A downstream frame with a number, the return-valid mask 0xFFFF, and otherwise zero words. -/
def frameNumbered (n : Nat) : Frame :=
  ((Vector.replicate 143 0).set 0 0xC3A55A3C).set 1 (BitVec.ofNat 32 (n * 2 ^ 20 + 0xFFFF0))

/-- A copy of a frame by number and class. -/
def copyNumbered (n : Nat) (good : Bool) (x : PathName) : Copy :=
  { frameNo := BitVec.ofNat 12 n, good := good, path := x, mask := 0xFFFF, talkValid := false
    control := Vector.replicate 4 0, ret := Vector.replicate 16 (Vector.replicate 8 0), talk := Vector.replicate 8 0 }

/-- A boundary whose inputs are all zero, in a given order. -/
def quiet (order : List Work) : BoundaryInput :=
  { captured := Vector.replicate 48 (Vector.replicate 8 0), keyLow := Vector.replicate 4 false, rail := 768, order := order }

/-! ## Well-formed commands: each check refuses a term -/

theorem test_wf_frame_without_sync : (Instr.frameArrival .p0 .a (Vector.replicate 143 0)).wf = false := by decide +kernel
theorem test_wf_frame_with_sync : (Instr.frameArrival .p0 .a (frameNumbered 5)).wf = true := by decide +kernel
theorem test_wf_boundary_names_a_unit_twice : (Instr.stageFrameBoundary (quiet [.build, .build])).wf = false := by
  decide +kernel
theorem test_wf_known_kind_is_not_unknown : (Instr.unknownKindMessage .p0 26 ⟨0, 0, []⟩).wf = false := by decide
theorem test_wf_item_27_is_not_bad : (Instr.writeSettingBadItem .p0 ⟨0, 27, [0]⟩).wf = false := by decide
theorem test_wf_message_of_16_words : (Instr.talk .p0 ⟨0, 0, List.replicate 16 0⟩).wf = false := by decide
theorem test_wf_setting_of_16_words : (Instr.writePhantomTrip .p0 ⟨0, List.replicate 16 0⟩).wf = false := by decide
theorem test_decode_no_row_has_bits : decodeTableWord 32 0x40000000 = none := rfl

/-! ## Stage link -/

/-- Chapter 1, "Bringing Port 1 up", B48: P = 245 and slot 247 at distance 2. -/
theorem test_path_up_recentres :
    let m := (after (.pathUp .p1 .a) (withPath .p1 .a (fun r => { r with
      state := .acquire, arrived := true, goodCount := 47, acq := some (copyNumbered 247 true .a) }) State.reset)).merges.p1
    (m.playNo, m.slots[2].map (·.frameNo), m.slots[0].isNone) = (245, some 247, true) := by decide +kernel
/-- R3: the first arrival on a DARK path takes it to ACQUIRE, and a suspect frame is no acquisition frame. -/
theorem test_arrival_on_dark_path :
    let r := (takeArrival .p0 .a (copyNumbered 200 false .a) State.reset).paths.p0.a
    (r.state, r.arrived, r.suspect, r.acq.isNone) = (.acquire, true, true, true) := by decide +kernel
/-- R2: the check over the 8 bytes of the text "12345678", computed apart from the model. -/
theorem test_frame_check : frameCheck [0x31323334, 0x35363738] = 0xA12B := by decide +kernel
/-- Chapter 1, "A desk restart": P = 1000 and a copy of frame 1010. -/
theorem test_arrival_slips_window :
    let m := (after (.frameArrival .p0 .a (frameNumbered 1010))
      (withMerge .p0 (fun m => { m with playNo := 1000 }) up0)).merges.p0
    (m.playNo, m.slips, m.slots[3].map (·.frameNo)) = (1007, 7, some 1010) := by decide +kernel
/-- R16: with P = 4094 frame 1 lies at distance 3, and frame 4093 is late. -/
theorem test_window_wraps :
    let s := withMerge .p0 (fun m => { m with playNo := 4094 }) up0
    ((placeCopy .p0 (copyNumbered 1 true .a) s).merges.p0.slots[3].isSome,
     (placeCopy .p0 (copyNumbered 4093 true .a) s).merges.p0.lates) = (true, 1) := by decide +kernel
/-- R20 and chapter 1, "A burst lost on both paths": the fade of the third missing frame. -/
theorem test_concealment_fades :
    (concealFrame 3 100000).toList = [87500, 75000, 62500, 50000, 37500, 25000, 12500, 0] := by decide +kernel
/-- R20: the fade of −5. -/
theorem test_concealment_rounds_away_from_zero :
    (concealFrame 3 (-5)).toList = [-4, -4, -3, -3, -2, -1, -1, 0] := by decide +kernel
/-- R21: the twelfth empty playout. -/
theorem test_resync :
    let t := after (.resync .p0) (withMerge .p0 (fun m => { m with emptyRun := 11 }) up0)
    (t.merges.p0.hunting, t.merges.p0.resyncs, t.faults.sticky.p2.getLsbD 8) = (true, 1, true) := by decide +kernel
/-- R6, R12: the last carrying path goes DARK and its port OFFLINE. -/
theorem test_path_dark_goes_offline :
    let t := after (.pathDark .p0 .a) (queued 3 (withPath .p0 .a (fun r => { r with missRun := 11 }) up0))
    (t.paths.p0.a.state, online t .p0, t.lanes.p0.queue.length, t.merges.p0.missRun) = (.dark, false, 0, 4) := by
  decide +kernel
/-- R5: twelve misses in ACQUIRE. -/
theorem test_acquire_miss_dark :
    (after (.acquireMissDark .p0 .a) (withPath .p0 .a (fun r => { r with state := .acquire, missRun := 11 }) State.reset)).paths.p0.a.state
      = .dark := by decide +kernel
/-- R7: 8 suspect arrivals in a block degrade the path, 7 do not. -/
theorem test_degrade_block :
    let at_ (n : Nat) := (after (.degradeBlockJudged .p0 .a)
      (withPath .p0 .a (fun r => { r with blockCount := 255, suspectCount := n }) up0)).paths.p0.a.state
    (at_ 8, at_ 7) = (.degraded, .up) := by decide +kernel
/-- R1: the sync word, and another word. -/
theorem test_sync_word_match :
    ((after (.syncWordMatch .p0 .a 0xC3A55A3C) State.reset).paths.p0.a.rx,
     (after (.syncWordMatch .p0 .a 0xC3A55A3D) State.reset).paths.p0.a.rx) = (.inFrame, .hunting) := by decide +kernel
theorem test_return_to_hunting :
    (after (.returnToHunting .p0 .a 0) (withPath .p0 .a (fun r => { r with rx := .nextWord }) up0)).paths.p0.a.rx = .hunting := by
  decide +kernel
/-- R24, R111: one boundary after reset. -/
theorem test_boundary_moves_on :
    let t := after (.stageFrameBoundary (quiet [.build, .playout .p1])) State.reset
    (t.frameNo, t.phantom.scan, t.phantom.banks[0].last) = (1, 1, 768) := by decide +kernel

/-! ## Stage clock -/

/-- Chapter 2, "A desk drifting out of tolerance": P1, selected, completes 2,455,881 and then 2,455,880. -/
theorem test_interval_out_of_tolerance :
    let good (p : Port) (s : State) : State := withMonitor p (fun m => { m with state := .good, ref := some .a, interval := .running }) s
    let s := withSetting (fun t => { t with clockPriority := [.p1, .p0] }) (good .p0 (good .p1 up01))
    let s := s.withClock { s.clock with source := some .p1 }
    let t := after (.intervalComplete .p1 2455881) s
    let u := after (.intervalComplete .p1 2455880) t
    ((t.clock.monitors.p1.state, t.clock.monitors.p1.run, t.clock.source),
     (u.clock.monitors.p1.state, u.clock.monitors.p1.run, u.clock.source, u.faults.sticky.p0.getLsbD 9))
      = ((.good, 1, some .p1), (.bad, 0, some .p0, true)) := by decide +kernel
/-- R27: the bounds of the tolerance. -/
theorem test_interval_bounds :
    (inTolerance 2456371, inTolerance 2456372, inTolerance 2458828, inTolerance 2458829) = (false, true, true, false) := by
  decide
/-- R28: the move of the reference path taken first, the completion second: no verdict and no last count. -/
theorem test_interval_after_a_move :
    let s := withMonitor .p0 (fun m => { m with state := .checking, run := 9, ref := some .a, interval := .running })
      (withPath .p0 .b (fun r => { r with state := .up }) up0)
    let t := after (.intervalComplete .p0 2457600) (after (.lossOfSignal .p0 .a) s)
    (t.clock.monitors.p0.ref, t.clock.monitors.p0.state, t.clock.monitors.p0.run, t.clock.monitors.p0.last)
      = (some .b, .checking, 9, 0) := by decide +kernel
/-- R25, R28: signal lost on the reference path with no other path keeps the reference; the interval is abandoned. -/
theorem test_loss_of_signal :
    let t := after (.lossOfSignal .p0 .a) (withMonitor .p0 (fun m => { m with ref := some .a, interval := .running }) up0)
    (t.signal.p0.a, t.clock.monitors.p0.ref, t.clock.monitors.p0.interval) = (false, some .a, .none) := by decide +kernel
theorem test_signal_return :
    let t := after (.signalReturn .p0 .a) ((withMonitor .p0 (fun m => { m with ref := some .a }) up0).withSignal
      (.of fun _ => .of fun _ => false))
    (t.signal.p0.a, t.signal.p0.b, t.clock.monitors.p0.interval) = (true, false, .awaiting) := by decide +kernel

/-! ## Control lane -/

/-- A HEAD word. -/
def head (unit kind length tag : Nat) : Word := BitVec.ofNat 32 (2 ^ 30 + unit * 2 ^ 27 + kind * 2 ^ 21 + length * 2 ^ 17 + tag * 2 ^ 9)

/-- Chapter 3, "Assembling messages across frames", playout 501. -/
theorem test_assembly_across_frames :
    let words : List Word := [0x80000000, 0x80000000, 0x80000000, head 1 7 3 0x40]
    let a : Assembly := { unit := 3, kind := 1, length := 5, tag := 0, arg := 0, forUs := false, count := 3, body := [] }
    let s := (up0.withUnitAddr 1).withLanes (.of fun _ => { asm := some a, queue := [], sent := 0 })
    let t := takeWords .p0 words s
    (t.lanes.p0.asm.map fun a => (a.forUs, a.count, a.length, a.tag), t.faults.sticky.p0.getLsbD 10)
      = (some (true, 0, 3, 0x40), true) := by decide +kernel
/-- The same, playout 506: tag 0x43 is dropped, tag 0x44 is answered with 11 words. -/
theorem test_new_head_drops_partial_message :
    let words : List Word := [head 1 7 4 0x43, 0x80000000, head 1 20 0 0x44, 0]
    let t := takeWords .p0 words (up0.withUnitAddr 1)
    (t.lanes.p0.asm, t.lanes.p0.queue.map fun r => (r.tag, r.code, r.body.length), t.faults.sticky.p0.getLsbD 10)
      = (none, [(0x44, .done, 11)], true) := by decide +kernel
/-- Chapter 3, "The first upstream frame after reset": straps 2. -/
theorem test_status_words_after_reset :
    let s := after (.reset 2) State.reset
    (statusWord0 s .p0, statusWord1 s .p0) = (0x01C20000, 0x02500000) := by decide +kernel
theorem test_unknown_kind : reply0 (after (.unknownKindMessage .p0 63 ⟨9, 0, [1]⟩) up0) = some (.unknown, []) := by
  decide +kernel
/-- R45, R50: a ninth message is turned away; R62: a KEEPALIVE is not. -/
theorem test_full_queue :
    let t := after (.readClock .p0 ⟨0, 0, []⟩) (queued 8 up0)
    let u := after (.keepalive .p0 ⟨0, 0, [1, 2, 3]⟩) (queued 8 up0)
    ((t.lanes.p0.queue.length, t.presence.p0.present, t.faults.sticky.p0.getLsbD 11),
     (u.presence.p0.present, u.faults.sticky.p0.getLsbD 11)) = ((8, true, true), (true, false)) := by decide +kernel

/-! ## Presence and ownership -/

/-- Chapter 4, "Expiry at the boundary of a SET_GAIN": timeout code 0. -/
theorem test_presence_expiry :
    let s := withSetting (fun t => { t with timeout := .of fun _ => 0 }) up0
    let s := s.withOwners { s.owners with chan := vset s.owners.chan 12 (some .p1) }
    let t := after (.presenceExpiry .p1) (s.withPresence (.of fun _ => { present := true, running := true, elapsed := 1499 }))
    (t.presence.p1.present, t.owners.chan[(12 : Chan)], t.journal.entries)
      = (false, none, [⟨1, .ownerCh, 12, none, 3⟩]) := by decide +kernel
/-- R61: a timeout written at a boundary before its count is not compared there, but at the next boundary. -/
theorem test_written_timeout_waits_for_the_next_boundary :
    let s := up0.withPresence (up0.presence.set .p1 { present := true, running := true, elapsed := 5000 })
    let t := after (.writePresenceTimeout .p0 .p1 ⟨0, [0]⟩) s
    let u := countPresence .p1 t
    (t.settings.timeout.p1, u.presence.p1.present, u.presence.p1.elapsed, (countPresence .p1 u).presence.p1.present)
      = (0, true, 5001, false) := by decide +kernel
/-- Chapter 4, "Takeover under REPORT": CLAIM_CHANNELS (40, 8) from P0. -/
theorem test_claim_channels :
    let owner (c : Chan) : Option Port := if c.val < 40 then none else if c.val < 44 then some .p1 else some .p2
    let s := up0.withOwners { up0.owners with chan := Vector.ofFn owner }
    let s := s.withPresence (s.presence.set .p2 { present := true, running := true, elapsed := 0 })
    let t := after (.claimChannels .p0 ⟨0, 40, [8]⟩) s
    (reply0 t, t.owners.chan[(43 : Chan)], t.owners.chan[(44 : Chan)], t.journal.gen)
      = (some (.owned, [0, 0xF00000]), some .p0, some .p2, 4) := by decide +kernel
theorem test_release_channels :
    let t := after (.releaseChannels .p0 ⟨0, 47, [1]⟩) (ownedBy .p0 up0)
    (reply0 t, t.owners.chan[(47 : Chan)], t.owners.chan[(46 : Chan)]) = (some (.done, [0, 0x800000]), none, some .p0) := by
  decide +kernel
theorem test_claim_outputs :
    let t := after (.claimOutputs .p0 ⟨0, 0, [0x8001]⟩) up0
    (reply0 t, t.owners.out[(15 : OutId)], t.owners.out[(1 : OutId)]) = (some (.done, [0]), some .p0, none) := by
  decide +kernel
theorem test_release_outputs :
    reply0 (after (.releaseOutputs .p0 ⟨0, 0, [0x8001]⟩) (ownedBy .p0 up0)) = some (.done, [0x8001]) := by decide +kernel
/-- Chapter 12, "READ_OWNERS": no owner is 3, fifteen owners to a word, four in the fifth. -/
theorem test_read_owners :
    reply0 (after (.readOwners .p0 ⟨0, 0, []⟩) up0)
      = some (.done, [0x3FFFFFFF, 0x3FFFFFFF, 0x3FFFFFFF, 0x3FFFFFFF, 0xFF, 1]) := by decide +kernel

/-! ## Head amplifiers and tracking -/

/-- R74: 131 is clamped, 75 is rounded down. -/
theorem test_set_gain :
    (reply0 (after (.setGain .p0 ⟨0, 5, [131]⟩) (ownedBy .p0 up0)),
     reply0 (after (.setGain .p0 ⟨0, 5, [75]⟩) (ownedBy .p0 up0))) = (some (.clamped, [130]), some (.done, [74])) := by
  decide +kernel
/-- Chapter 5, "A gain step, retargeted and applied": SET_PAD retargets the step of 72. -/
theorem test_set_pad_retargets :
    reply0 (after (.setPad .p0 ⟨0, 30, [1]⟩) (ownedBy .p0 (withChannel 30 (fun ch =>
      { ch with gain := 60, eff := 60, pending := some { gain := 72, pad := false, waited := 2 } }) up0)))
      = some (.done, [BitVec.ofNat 30 (72 + 2 ^ 8 + 2 * 2 ^ 9)]) := by decide +kernel
/-- The same, the step applied: G 72, pad ON, E 32, a GAIN entry by the owner. -/
theorem test_forced_step :
    let t := after (.forcedStep 30 (Vector.replicate 8 5)) (ownedBy .p2 (withChannel 30 (fun ch =>
      { ch with gain := 60, eff := 60, pending := some { gain := 72, pad := true, waited := 59 } }) State.reset))
    (t.channels[(30 : Chan)].eff, t.channels[(30 : Chan)].pending, t.journal.entries.map fun e => (e.kind, e.author, e.value))
      = (32, none, [(.gain, some .p2, 72 + 256)]) := by decide +kernel
/-- R77: a sign change between two samples is a crossing; a zero last sample with a positive first one is none. -/
theorem test_crossing :
    (hasCrossing 5 (Vector.replicate 8 (-3)), hasCrossing 0 (Vector.replicate 8 3), hasCrossing 3 ((Vector.replicate 8 3).set 7 0))
      = (true, false, true) := by decide +kernel
/-- Chapter 5, "A shed in the middle of a ramp": the request of channel 9. -/
theorem test_set_phantom :
    (reply0 (after (.setPhantom .p0 ⟨0, 9, [1]⟩) (ownedBy .p0 up0)),
     reply0 (after (.setPhantom .p0 ⟨0, 9, [1]⟩) (ownedBy .p0 (withBank 1 (fun k => { k with state := .holdoff }) up0))))
      = (some (.done, [BitVec.ofNat 30 (1 + 2 + 1800 * 16)]), some (.deferred, [1 + 8])) := by decide +kernel
theorem test_mute_counter_expiry :
    let t := after (.muteCounterExpiry 9) (withChannel 9 (fun ch => { ch with request := true, phantom := .rampUp, mute := 1 }) State.reset)
    (t.channels[(9 : Chan)].phantom, t.channels[(9 : Chan)].mute, t.journal.entries.map fun e => (e.kind, e.author, e.value))
      = (.on, 0, [(.phantom, none, 1 + 4)]) := by decide +kernel
/-- Chapter 5, "Two desks reading one bank": a peak of 6,291,456 in channel 17. -/
theorem test_read_meters :
    let s := up0.withMeters (up0.meters.set .p0 (vset up0.meters.p0 17 { peak := 6291456, clip := false, sendClip := true }))
    let t := after (.readMeters .p0 ⟨0, 2, []⟩) s
    (reply0 t, t.meters.p0[(17 : Chan)].peak) = (some (.done, [0, BitVec.ofNat 30 (24576 + 2 ^ 17), 0, 0, 0, 0, 0, 0]), 0) := by
  decide +kernel
/-- Chapter 6, "What the desks receive from a steady tone". -/
theorem test_gain_function_tone :
    ((gainFunction 1000000 4).1, (gainFunction 1778279 (-6)).1) = (1258911, 1255942) := by decide +kernel
/-- R105's table: a half goes away from zero; R105: at +36 hdB 1,048,576 saturates and 1,048,575 does not. -/
theorem test_gain_function_edges :
    ((gainFunction (-3) (-12)).1, (gainFunction 5 (-24)).1, (gainFunction 1048576 36).2, (gainFunction 1048575 36).2)
      = (-2, 1, true, false) := by decide +kernel
/-- Chapter 6, "Channel 12 across an ownership change": Port 0's record at E = 70 and at E = 10. -/
theorem test_anchor_rule :
    let r : Track := { trim := 4, anchor := 60, tracking := true, gain := 4, limited := false, period := 4 }
    ((anchorOne (some .p1) 70 .p0 r).gain, (anchorOne (some .p1) 10 .p0 r).gain, (anchorOne (some .p1) 10 .p0 r).limited)
      = (-6, 36, true) := by decide
theorem test_set_trim : reply0 (after (.setTrim .p0 ⟨0, 3, [37]⟩) up0)
    = some (.clamped, [BitVec.ofNat 30 (36 + 20 * 2 ^ 8 + 36 * 2 ^ 17)]) := by decide +kernel
/-- Chapter 6, "A desk that turns tracking off while limited": T 36, A 10, D 36, limited clear. -/
theorem test_set_tracking_off :
    let s := withChannel 12 (fun ch => { ch with gain := 50, pad := true, eff := 10 }) up0
    let s := s.withTracks (s.tracks.set .p0 (vset s.tracks.p0 12
      { trim := 4, anchor := 60, tracking := true, gain := 36, limited := true, period := 36 }))
    let t := after (.setTracking .p0 ⟨0, 12, [1]⟩) s
    (reply0 t, t.tracks.p0[(12 : Chan)])
      = (some (.done, [4096, 0]), { trim := 36, anchor := 10, tracking := false, gain := 36, limited := false, period := 36 }) := by
  decide +kernel
theorem test_read_tracking : reply0 (after (.readTracking .p0 ⟨0, 47, [1 + 2 * 256]⟩) up0)
    = some (.done, [BitVec.ofNat 30 (20 * 2 ^ 8)]) := by decide +kernel

/-! ## Phantom supply monitor -/

/-- Chapter 7, "A shorted cable", boundary s: channels 16 to 18 are shed, channels 19 to 23 muted. -/
theorem test_phantom_reading_trips :
    let on (c : Chan) (s : State) : State := withChannel c (fun ch => { ch with request := true, phantom := .on }) s
    let s := on 16 (on 17 (on 18 State.reset))
    let t := after (.phantomReading 2 650) (s.withPhantom { s.phantom with scan := 2 })
    (t.phantom.banks[(2 : BankId)], t.channels[(18 : Chan)].phantom, t.channels[(19 : Chan)].phantom, t.channels[(19 : Chan)].mute, t.journal.gen)
      = ({ state := .holdoff, trips := 1, last := 650, timer := 12000 }, .shed, .off, 1800, 4) := by decide +kernel
/-- The same, boundary s + 24012: the third trip locks the bank out; R112: a reading at the trip level does not trip. -/
theorem test_phantom_reading_locks_out :
    let s := withBank 0 (fun _ => { state := .retry, trips := 2, last := 768, timer := 5 }) State.reset
    ((after (.phantomReading 0 630) s).phantom.banks[(0 : BankId)], (after (.phantomReading 0 704) s).phantom.banks[(0 : BankId)].state)
      = ({ state := .lockedOut, trips := 3, last := 630, timer := 0 }, .retry) := by decide +kernel
/-- Chapter 7: a holdoff ends in RETRY at 768, and restarts at 713. -/
theorem test_holdoff_end :
    let at_ (n : Nat) := (after (.holdoffEnd 1)
      (withBank 1 (fun _ => { state := .holdoff, trips := 1, last := n, timer := 1 }) State.reset)).phantom.banks[(1 : BankId)]
    ((at_ 768).state, (at_ 768).timer, (at_ 713).state, (at_ 713).timer) = (.retry, 0, .holdoff, 12000) := by decide +kernel
theorem test_retry_watch_end :
    (after (.retryWatchEnd 1) (withBank 1 (fun _ => { state := .retry, trips := 2, last := 768, timer := 59999 }) State.reset)).phantom.banks[(1 : BankId)]
      = { state := .normal, trips := 0, last := 768, timer := 0 } := by decide +kernel
/-- Chapter 7: the reply to a reset has RETRY, count 0, timer 0, last reading 768. -/
theorem test_phantom_reset :
    reply0 (after (.phantomReset .p0 ⟨0, 2, []⟩) (ownedBy .p0 (withBank 2 (fun _ =>
      { state := .lockedOut, trips := 3, last := 768, timer := 0 }) up0))) = some (.done, [BitVec.ofNat 30 (2 + 768 * 16)]) := by
  decide +kernel
theorem test_read_phantom : reply0 (after (.readPhantom .p0 ⟨0, 0, []⟩) (withBank 5 (fun k => { k with last := 1 }) up0))
    = some (.done, [0, 0, 0, 0, 0, 16]) := by decide +kernel

/-! ## Journal and settings -/

/-- A journal of 32 owner entries up to generation 3, across the wrap. -/
def wrapped : Journal :=
  { gen := 3, entries := (List.range 32).map fun i => ⟨BitVec.ofNat 32 (i + 4294967268), .ownerCh, 0, none, 3⟩ }

/-- Chapter 8, "Across the wrap of the generation": g = 4,294,967,294 lacks 5 entries, g = 10 is not yet made. -/
theorem test_read_changes :
    let s := up0.withJournal wrapped
    ((reply0 (after (.readChanges .p0 ⟨0, 0, [65534, 65535]⟩) s)).map fun r => (r.1, r.2.length, r.2.getLast?),
     reply0 (after (.readChanges .p0 ⟨0, 0, [10, 0]⟩) s))
      = (some (.done, 11, some (BitVec.ofNat 30 (5 + 3 * 16))), some (.badValue, [])) := by decide +kernel
/-- R130: a desk that lacks more entries than the journal holds is told the current generation. -/
theorem test_read_changes_too_old :
    reply0 (after (.readChanges .p0 ⟨0, 0, [0, 65535]⟩) (up0.withJournal wrapped)) = some (.tooOld, [3, 0]) := by decide +kernel
theorem test_read_channels : reply0 (after (.readChannels .p0 ⟨0, 47, [1]⟩) up0)
    = some (.done, [BitVec.ofNat 30 (20 + 3 * 2 ^ 13), 0]) := by decide +kernel
/-- Chapter 8, "Two desks and one setting": DUCK_DEPTH 90 at generation 400. -/
theorem test_write_duck_depth :
    let t := after (.writeDuckDepth .p0 ⟨0, [90]⟩) (up0.withJournal { gen := 400, entries := [] })
    (reply0 t, t.settings.duckDepth) = (some (.clamped, [BitVec.ofNat 30 (60 + 15 * 2 ^ 16), 401]), 60) := by decide +kernel
/-- R31: the list P2, P0; a duplicate is refused. -/
theorem test_write_clock_priority :
    let t := after (.writeClockPriority .p0 ⟨0, [2 + 2 * 8]⟩) up0
    (reply0 t, t.settings.clockPriority, reply0 (after (.writeClockPriority .p0 ⟨0, [2]⟩) up0))
      = (some (.done, [18, 1]), [.p2, .p0], some (.badValue, [])) := by decide +kernel
/-- R8, R12, R49: a write that disables its own port's only carrying path takes the port OFFLINE and loses its reply. -/
theorem test_write_path_enable :
    let t := after (.writePathEnable .p0 ⟨0, [0x3E]⟩) up0
    (t.paths.p0.a.state, t.paths.p0.b.state, t.lanes.p0.queue.length, t.journal.gen) = (.disabled, .dark, 0, 1) := by
  decide +kernel
theorem test_write_presence_timeout :
    let t := after (.writePresenceTimeout .p0 .p2 ⟨0, [3]⟩) up0
    (reply0 t, t.settings.timeout.p2, reply0 (after (.writePresenceTimeout .p0 .p2 ⟨0, [4]⟩) up0))
      = (some (.done, [BitVec.ofNat 30 (3 + 4 * 2 ^ 16), 1]), 3, some (.badValue, [])) := by decide +kernel
theorem test_write_presence_policy :
    (after (.writePresencePolicy .p0 .p1 ⟨0, [1]⟩) up0).settings.policy.p1 = .report := by decide +kernel
theorem test_write_phantom_trip : (after (.writePhantomTrip .p0 ⟨0, [3]⟩) up0).settings.trip = 3 := by decide +kernel
/-- R165: a key enabled from DISABLED goes to ARMING. -/
theorem test_write_key_config :
    let t := after (.writeKeyConfig .p0 2 ⟨0, [0b01101]⟩) up0
    (t.keys[(2 : KeyId)].state, t.settings.keys[(2 : KeyId)].latch, t.settings.keys[(2 : KeyId)].ports) = (.arming, false, ⟨true, true, false⟩) := by
  decide +kernel
theorem test_write_talk_source : reply0 (after (.writeTalkSource .p0 ⟨0, [48]⟩) up0) = some (.badIndex, []) := by decide +kernel
theorem test_write_stage_talk_level :
    let t := after (.writeStageTalkLevel .p0 ⟨0, [0xFFC3]⟩) up0
    (reply0 t, t.settings.talkLevel) = (some (.clamped, [BitVec.ofNat 30 (0xFFC4 + 14 * 2 ^ 16), 1]), -60) := by decide +kernel
/-- R187: PATH_LOSS, active since reset, mapped to ALM0 drives the line at once. -/
theorem test_write_alarm_map :
    let t := after (.writeAlarmMap .p0 .pathLoss ⟨0, [1]⟩) up0
    (t.faults.driven.line0, t.faults.driven.line1, t.faults.stretch.line0) = (true, false, 0) := by decide +kernel
theorem test_write_setting_bad_item :
    reply0 (after (.writeSettingBadItem .p0 ⟨0, 28, [0]⟩) up0) = some (.badIndex, []) := by decide +kernel
/-- Chapter 12, "Setting values": the reset values of items 0 and 1 in the first word. -/
theorem test_read_settings :
    (reply0 (after (.readSettings .p0 ⟨0, 0, []⟩) up0)).map (fun r => (r.1, r.2.length, r.2.head?))
      = some (.done, 15, some (BitVec.ofNat 30 (291 + 63 * 2 ^ 15))) := by decide +kernel
/-- Chapter 12, "READ_CLOCK": one path UP; no frame has been delivered. -/
theorem test_read_clock :
    (reply0 (after (.readClock .p0 ⟨0, 0, []⟩) up0)).map (fun r => (r.2.head?, r.2.getLast?))
      = some (some (BitVec.ofNat 30 (3 + 291 * 4 + (3 + 8 + 64 + 512 + 4096 + 32768) * 2 ^ 11)),
              some (BitVec.ofNat 30 (48 + 48 * 64 + 48 * 4096))) := by decide +kernel

/-! ## Outputs -/

/-- R155's table. -/
theorem test_duck_gain :
    [0, 6, 7, 12, 24, 25, 30, 36, 60].map duckGain = [32768, 23143, 21849, 16384, 8192, 7715, 5786, 4096, 1024] := by decide +kernel
/-- R156's table at a depth of 24. -/
theorem test_duck_factor :
    [0, 120, 240, 320, 360, 480].map (duckFactor · 8192) = [32768, 26624, 20480, 16384, 14336, 8192] := by decide +kernel
/-- Chapter 9, "A cable cut and its repair", after the frame of c + 12: w_p 472, w_b 8. -/
theorem test_crossfade :
    let s := withOutput 4 (fun o => { o with sel := .backup, wp := 480 }) State.reset
    ((stepped s 4 8).wp, (stepped s 4 8).wb, (stepped s 4 8).duck) = (472, 8, 0) := by decide +kernel
/-- R157: an undisturbed output plays its source bit for bit. -/
theorem test_output_sample :
    let s := withOutput 4 (fun o => { o with primary := some ⟨.p1, 3⟩, sel := .primary, wp := 480 }) State.reset
    let h : Handoff := { ret := Vector.replicate 16 (Vector.replicate 8 (-8388608)), talk := Vector.replicate 8 0 }
    let s := s.withLatch { s.latch with handoff := s.latch.handoff.set .p1 h }
    (outputFrame s 4).toList = List.replicate 8 (-8388608) := by decide +kernel
/-- R149, chapter 12: a setting with no source leaves the output SILENT; port 3 is refused. -/
theorem test_set_output :
    let s := ownedBy .p0 up0
    (reply0 (after (.setOutput .p0 ⟨0, 4, [0]⟩) s), reply0 (after (.setOutput .p0 ⟨0, 4, [7]⟩) s))
      = (some (.done, [BitVec.ofNat 30 (2 + 32)]), some (.badValue, [])) := by decide +kernel
/-- R146: the holdoff's end puts an output whose primary is available back on PRIMARY. -/
theorem test_output_holdoff_end :
    let s := withOutput 4 (fun o => { o with primary := some ⟨.p0, 8⟩, action := .backup, sel := .silent, failed := true, holdoff := 1 })
      (withMerge .p0 (fun m => { m with mask := 0x0100 }) up0)
    let o := (after (.outputHoldoffEnd 4) s).outputs[(4 : OutId)]
    (o.sel, o.failed, o.holdoff) = (.primary, false, 0) := by decide +kernel
theorem test_read_outputs :
    (reply0 (after (.readOutputs .p0 ⟨0, 15, [1]⟩) (withOutput 15 (fun o => { o with wp := 472, wb := 8, duck := 3 }) up0))).map
      (fun r => (r.1, r.2.drop 1)) = some (.done, [BitVec.ofNat 30 (472 + 8 * 2 ^ 9 + 3 * 2 ^ 18), 0]) := by decide +kernel

/-! ## Talkback -/

theorem test_talk :
    let t := after (.talk .p0 ⟨0, 0, [0x1000F]⟩) (withMerge .p0 (fun m => { m with talkValid := true }) up0)
    (reply0 t, t.talkMask.p0) = (some (.done, [0x1000F]), 0x000F) := by decide +kernel
/-- R171: an acknowledgement of a PRESSED key marks the call, of a RELEASED key clears it. -/
theorem test_ack_call :
    let s := up0.withCalls (.of fun _ => Vector.replicate 4 { pending := true, acked := false })
    (reply0 (after (.ackCall .p0 ⟨0, 1, []⟩) (withKey 1 (fun r => { r with state := .pressed }) s)),
     reply0 (after (.ackCall .p0 ⟨0, 1, []⟩) (withKey 1 (fun r => { r with state := .released }) s)))
      = (some (.done, [0x5D]), some (.done, [0x51])) := by decide +kernel
/-- R174, R60: an acknowledgement taken at the boundary of its port's expiry, before it: the port stays PRESENT, and the
call of a PRESSED key is marked, then cleared; another call stays. -/
theorem test_ack_call_ahead_of_the_expiry :
    let s := (withKey 1 (fun r => { r with state := .pressed }) up0).withCalls
      (.of fun _ => Vector.replicate 4 { pending := true, acked := false })
    let t := after (.ackCall .p0 ⟨0, 1, []⟩)
      (s.withPresence (.of fun _ => { present := true, running := true, elapsed := 5999 }))
    let u := takeWork t (.presence .p0)
    (reply0 t, u.presence.p0.present, u.calls.p0[(1 : KeyId)].pending, u.calls.p0[(2 : KeyId)].pending)
      = (some (.done, [0x5D]), true, false, true) := by decide +kernel
/-- R163, R170: a press of a RELEASED LATCH key turns the toggle and calls the PRESENT port of its mask. -/
theorem test_debounced_press :
    let conf : KeyConfig := { enabled := true, latch := true, ports := .of fun _ => true }
    let s := withSetting (fun t => { t with keys := Vector.replicate 4 conf }) State.reset
    let s := s.withPresence (s.presence.set .p1 { present := true, running := true, elapsed := 0 })
    let t := after (.debouncedPress 3) (withKey 3 (fun r => { r with state := .released, stab := 23 }) s)
    (t.keys[(3 : KeyId)], t.calls.p0[(3 : KeyId)].pending, t.calls.p1[(3 : KeyId)].pending)
      = ({ state := .pressed, down := true, stab := 0, toggle := true }, false, true) := by decide +kernel
theorem test_debounced_release :
    let s := State.reset.withCalls (.of fun _ => Vector.replicate 4 { pending := true, acked := true })
    let t := after (.debouncedRelease 3) (withKey 3 (fun r => { r with state := .pressed, down := true, stab := 23 }) s)
    (t.keys[(3 : KeyId)].state, t.calls.p0[(3 : KeyId)].pending, t.calls.p0[(2 : KeyId)].pending) = (.released, false, true) := by
  decide +kernel

/-! ## Faults, RSTN -/

/-- R182: of all kinds named, the active conditions stay. -/
theorem test_clear_faults :
    let s := up0.withFaults { up0.faults with sticky := .of fun _ => 0xFFF }
    (reply0 (after (.clearFaults .p0 ⟨0, 0, [0xFFF]⟩) s)) = some (.done, [0b100101]) := by decide +kernel
theorem test_read_faults :
    reply0 (after (.readFaults .p0 ⟨0, 0, []⟩) up0) = some (.done, [BitVec.ofNat 30 (37 + 37 * 4096), 0]) := by decide +kernel
theorem test_stretch_timer_expiry :
    let t := after (.stretchTimerExpiry .line1) (State.reset.withFaults { State.reset.faults with stretch := ⟨0, 1⟩, driven := ⟨false, true⟩ })
    (t.faults.stretch.line1, t.faults.driven.line1) = (0, false) := by decide +kernel
/-- R24: while RSTN is low nothing is taken. -/
theorem test_rstn_low :
    let t := after .rstnLow up0
    (t.rstn, (after (.talk .p0 ⟨0, 0, [1]⟩) t).talkMask.p0, (after (.reset 3) t).unitAddr) = (false, 0, 3) := by decide +kernel

/-! ## Witnesses: for each statement with hypotheses, states and operands that meet them, clause by clause -/

/-- Frame 4095, all its audio and control words zero. Its header drives the check register to 0, so 0 is its check. -/
def frame4095 (check : Word) : Frame :=
  (((Vector.replicate 143 0).set 0 0xC3A55A3C).set 1 0xFFFF0000).set 142 check

theorem check_of_zero_words (n : Nat) : (List.replicate n (0 : Word)).foldl crcWord 0 = 0 := by
  have h : crcWord 0 0 = 0 := by decide +kernel
  induction n with
  | zero => rfl
  | succ n ih => rw [List.replicate_succ, List.foldl_cons, h, ih]

/-- R2: the frame is good just when its check word is 0. -/
theorem test_frame4095_good (x : PathName) (check : Word) :
    (copyOf x (frame4095 check)).good = (0 == check.setWidth 16) := by
  have hw : ((frame4095 check).toList.drop 1).take 141 = 0xFFFF0000 :: List.replicate 140 0 := rfl
  have h : crcWord 0xFFFF#16 0xFFFF0000 = 0 := by decide +kernel
  change frameGood (frame4095 check) = _
  rw [frameGood, hw, frameCheck, List.foldl_cons, h, check_of_zero_words]
  rfl

theorem arrives_up0 (check : Word) (m : Merge → Merge) : Arrives .p0 .a (frame4095 check) (withMerge .p0 m up0) :=
  ⟨rfl, rfl, (by decide : PathState.up ≠ .disabled), rfl⟩

theorem ready_up0 : Ready .p0 up0 := ⟨rfl, rfl, by decide⟩

theorem ready_owner : Ready .p0 (ownedBy .p0 up0) := ⟨rfl, rfl, by decide⟩

theorem witness_StepTakesTheFrontCommand : State.reset.pending = [] := rfl

theorem witness_RstnLow_nothing_is_taken :
    (State.reset.withRstn false).rstn = false ∧ (∀ u, Instr.pathUp .p0 .a ≠ .reset u) ∧ Instr.pathUp .p0 .a ≠ .rstnLow
      ∧ (∀ p x, Instr.pathUp .p0 .a ≠ .lossOfSignal p x) ∧ ∀ p x, Instr.pathUp .p0 .a ≠ .signalReturn p x :=
  ⟨rfl, (by intro _ h; cases h), by decide, (by intro _ _ h; cases h), (by intro _ _ h; cases h)⟩

theorem witness_RstnLow_offline_port :
    refusalOf State.reset (.talk .p0 ⟨0, 0, [1]⟩) = some (.p0, 23, 0, none) ∧ online State.reset .p0 = false := by
  decide +kernel

theorem witness_ReceiverBeginsAFrameAtTheSyncWord :
    (up0.rstn = true ∧ up0.paths.p0.a.state ≠ .disabled ∧ up0.signal.p0.a = true ∧ up0.paths.p0.a.rx = .hunting)
    ∧ (withPath .p0 .a (fun r => { r with state := .disabled }) up0).paths.p0.a.state = .disabled
    ∧ (let s := withPath .p0 .a (fun r => { r with rx := .nextWord }) up0
       s.paths.p0.a.state ≠ .disabled ∧ s.signal.p0.a = true ∧ s.paths.p0.a.rx = .nextWord) := by decide +kernel

/-- No reference; the reference path with the other path carrying and with signal; without. -/
theorem witness_SignalLossAndReturnMoveReceiverAndReference :
    (up0.rstn = true ∧ up0.signal.p0.a = true ∧ up0.clock.monitors.p0.ref ≠ some .a)
    ∧ (let s := withMonitor .p0 (fun m => { m with ref := some .a }) (withPath .p0 .b (fun r => { r with state := .up }) up0)
       s.clock.monitors.p0.ref = some .a ∧ s.paths.p0.b.state = .up ∧ s.signal.p0.b = true)
    ∧ (let s := withMonitor .p0 (fun m => { m with ref := some .a }) up0
       s.clock.monitors.p0.ref = some .a ∧ s.paths.p0.b.state = .dark)
    ∧ (let s := (withMonitor .p0 (fun m => { m with ref := some .a }) up0).withSignal (.of fun _ => .of fun _ => false)
       s.rstn = true ∧ s.signal.p0.a = false ∧ s.clock.monitors.p0.ref = some .a ∧ s.clock.monitors.p1.ref ≠ some .a)
    ∧ (let s := withMonitor .p0 (fun m => { m with ref := some .a, interval := .awaiting }) up0
       s.rstn = true ∧ online s .p0 = true ∧ s.clock.monitors.p0.interval ≠ .running)
    ∧ (up0.withRstn false).rstn = false ∧ online State.reset .p0 = false := by
  decide +kernel

theorem witness_ArrivalStartsOrContinuesAcquiring :
    (Arrives .p0 .a (frame4095 0) State.reset ∧ State.reset.paths.p0.a.state = .dark)
    ∧ (let s := withPath .p0 .a (fun r => { r with state := .acquire }) State.reset
       Arrives .p0 .a (frame4095 0) s ∧ s.paths.p0.a.state = .acquire) :=
  ⟨⟨⟨rfl, rfl, by decide, rfl⟩, rfl⟩, ⟨⟨rfl, rfl, by decide, rfl⟩, rfl⟩⟩

/-- An EMPTY slot at distance 3, a SUSPECT one at distance 0 and a GOOD copy, a GOOD one at distance 0. -/
theorem witness_CopyWithinTheWindowIsStoredOrCountedDuplicate :
    Carrying .p0 .a up0 ∧ (copyOf .a (frame4095 0)).good = true
    ∧ (let m := (withMerge .p0 (fun m => { m with playNo := 4092 }) up0).merges.p0
       m.hunting = false ∧ ((copyOf .a (frame4095 0)).frameNo - m.playNo).toNat = 3 ∧ m.slots[3] = none)
    ∧ (∀ good, let h := copyNumbered 4095 good .b
       let m := (withMerge .p0 (fun m => { m with playNo := 4095, slots := m.slots.set 0 (some h) }) up0).merges.p0
       m.hunting = false ∧ ((copyOf .a (frame4095 0)).frameNo - m.playNo).toNat = 0 ∧ m.slots[0] = some h ∧ h.good = good) :=
  ⟨.inl rfl, test_frame4095_good .a 0, by decide +kernel, by intro good; cases good <;> decide +kernel⟩

theorem witness_EarlyCopySlipsAndHuntingCopyRecentresTheWindow :
    (∀ m : Merge → Merge, Arrives .p0 .a (frame4095 0) (withMerge .p0 m up0) ∧ Carrying .p0 .a (withMerge .p0 m up0))
    ∧ up0.merges.p0.hunting = false
    ∧ ((copyOf .a (frame4095 0)).frameNo - 4091).toNat = 4 ∧ ((copyOf .a (frame4095 0)).frameNo - 2048).toNat = 2047
    ∧ (withMerge .p0 (fun m => { m with hunting := true }) up0).merges.p0.hunting = true :=
  ⟨fun m => ⟨arrives_up0 0 m, .inl rfl⟩, rfl, by decide +kernel, by decide +kernel, rfl⟩

theorem witness_LateCopyIsDiscarded :
    (∀ m : Merge → Merge, Arrives .p0 .a (frame4095 0) (withMerge .p0 m up0) ∧ Carrying .p0 .a (withMerge .p0 m up0))
    ∧ up0.merges.p0.hunting = false
    ∧ ((copyOf .a (frame4095 0)).frameNo - 2047).toNat = 2048 ∧ ((copyOf .a (frame4095 0)).frameNo - 0).toNat = 4095 :=
  ⟨fun m => ⟨arrives_up0 0 m, .inl rfl⟩, rfl, by decide +kernel, by decide +kernel⟩

/-- Port 1 OFFLINE with path A one good boundary from UP. -/
def nearlyUp : State := withPath .p1 .a (fun r => { r with
  state := .acquire, arrived := true, goodCount := 47, acq := some (copyNumbered 7 true .a) }) State.reset

/-- OFFLINE; ONLINE by path B with the acquisition frame at distance 3, at distance 4 and at distance 2048. -/
theorem witness_PathUpBringsItsPortOnline :
    (NotYetTaken (.score .p1 .a) nearlyUp ∧ online nearlyUp .p1 = false)
    ∧ (let r := nearlyUp.paths.p1.a
       r.state = .acquire ∧ r.arrived = true ∧ r.suspect = false ∧ r.goodCount = 47 ∧ r.acq = some (copyNumbered 7 true .a))
    ∧ (∀ n, online (withMerge .p1 (fun m => { m with playNo := n }) (withPath .p1 .b (fun r => { r with state := .up }) nearlyUp)) .p1 = true)
    ∧ nearlyUp.merges.p1.hunting = false
    ∧ ((7 : BitVec 12) - 4).toNat = 3 ∧ ((7 : BitVec 12) - 3).toNat = 4 ∧ ((7 : BitVec 12) - 2055).toNat = 2048 :=
  ⟨⟨⟨rfl, by decide⟩, rfl⟩, ⟨rfl, rfl, rfl, rfl, rfl⟩, fun _ => rfl, rfl, by decide, by decide, by decide⟩

theorem witness_AcquiringPathGoesDarkAndDegradeBlockIsJudged :
    (let s := withPath .p0 .b (fun r => { r with state := .acquire, missRun := 11 }) up0
     NotYetTaken (.score .p0 .b) s ∧ s.paths.p0.b.state = .acquire ∧ s.paths.p0.b.arrived = false ∧ s.paths.p0.b.missRun = 11)
    ∧ (∀ n, let s := withPath .p0 .a (fun r => { r with blockCount := 255, suspectCount := n, missRun := 10 }) up0
       NotYetTaken (.score .p0 .a) s ∧ Carrying .p0 .a s ∧ s.paths.p0.a.blockCount = 255 ∧ s.paths.p0.a.missRun < 11)
    ∧ (State.reset.paths.p0.b.state = .dark ∧ (withPath .p0 .b (fun r => { r with state := .disabled }) up0).paths.p0.b.state = .disabled)
    ∧ (let s := withPath .p0 .b (fun r => { r with state := .acquire, missRun := 10, goodCount := 47 }) up0
       s.paths.p0.b.state = .acquire ∧ s.paths.p0.b.arrived = false ∧ s.paths.p0.b.missRun < 11)
    ∧ (∀ suspect,
       let s := withPath .p0 .b (fun r => { r with state := .acquire, arrived := true, good := true, suspect := suspect, goodCount := 46 }) up0
       s.paths.p0.b.state = .acquire ∧ s.paths.p0.b.arrived = true ∧ s.paths.p0.b.suspect = suspect ∧ s.paths.p0.b.goodCount < 47)
    ∧ (∀ arrived,
       let s := withPath .p0 .a (fun r => { r with arrived := arrived, missRun := 10, blockCount := 254, suspectCount := 255 }) up0
       Carrying .p0 .a s ∧ s.paths.p0.a.arrived = arrived ∧ s.paths.p0.a.missRun < 11 ∧ s.paths.p0.a.blockCount < 255)
    ∧ (let s := withPath .p0 .a (fun r => { r with arrived := true, missRun := 11 }) up0
       Carrying .p0 .a s ∧ s.paths.p0.a.arrived = true ∧ s.paths.p0.a.blockCount < 255) :=
  ⟨⟨⟨rfl, by decide⟩, rfl, rfl, rfl⟩, fun _ => ⟨⟨rfl, List.not_mem_nil⟩, .inl rfl, rfl, (by decide : 10 < 11)⟩,
   ⟨rfl, rfl⟩, ⟨rfl, rfl, (by decide : 10 < 11)⟩, fun _ => ⟨rfl, rfl, rfl, (by decide : 46 < 47)⟩,
   fun _ => ⟨.inl rfl, rfl, (by decide : 10 < 11), (by decide : 254 < 255)⟩, ⟨.inl rfl, rfl, (by decide : 0 < 255)⟩⟩

/-- The other path carrying the port, this one its reference or not; the other path not carrying it. -/
theorem witness_PathDarkTakesItsPortOffline :
    (let s := withPath .p0 .a (fun r => { r with missRun := 11 }) up0
     NotYetTaken (.score .p0 .a) s ∧ Carrying .p0 .a s ∧ s.paths.p0.a.arrived = false ∧ s.paths.p0.a.missRun = 11
       ∧ ¬ Carrying .p0 .b s)
    ∧ (∀ ref,
       let s := withMonitor .p0 (fun m => { m with ref := ref })
         (withPath .p0 .b (fun r => { r with state := .degraded }) (withPath .p0 .a (fun r => { r with missRun := 11 }) up0))
       NotYetTaken (.score .p0 .a) s ∧ Carrying .p0 .a s ∧ s.paths.p0.a.arrived = false ∧ s.paths.p0.a.missRun = 11
         ∧ Carrying .p0 .b s ∧ s.clock.monitors.p0.ref = ref) :=
  ⟨⟨⟨rfl, by decide⟩, .inl rfl, rfl, rfl, by unfold Carrying; decide⟩,
   fun _ => ⟨⟨rfl, List.not_mem_nil⟩, .inl rfl, rfl, rfl, .inr rfl, rfl⟩⟩

/-- A message for us that is one word short. -/
def partialMessage : Assembly :=
  { unit := 0, kind := 23, length := 1, tag := 0, arg := 0, forUs := true, count := 0, body := [] }

theorem witness_TwelfthMissingPlayoutResyncs :
    ∀ asm,
      let lane : Lane := { asm := asm, queue := [], sent := 0 }
      let s := (withMerge .p0 (fun m => { m with emptyRun := 11 }) up0).withLanes (.of fun _ => lane)
      NotYetTaken (.playout .p0) s ∧ online s .p0 = true ∧ s.latch.cameUp.p0 = false ∧ s.merges.p0.hunting = false
        ∧ s.merges.p0.slots[0] = none ∧ s.merges.p0.emptyRun = 11 ∧ s.lanes.p0.asm = asm ∧ partialMessage.forUs = true :=
  fun _ => ⟨⟨rfl, List.not_mem_nil⟩, rfl, rfl, rfl, rfl, rfl, rfl, rfl⟩

/-- A delivered frame of each class; the eleventh missing frame in a row and a window that hunts, each with any message
in progress; an OFFLINE port, and one that has just come up. -/
theorem witness_PlayoutDeliversTheFrameNumberedP :
    (∀ good, let c := copyNumbered 0 good .a
      let s := withMerge .p0 (fun m => { m with slots := m.slots.set 0 (some c) }) up0
      online s .p0 = true ∧ s.latch.cameUp.p0 = false ∧ s.merges.p0.hunting = false ∧ s.merges.p0.slots[0] = some c
        ∧ c.good = good ∧ ∀ i : Fin 4, c.control[i].toNat < 2 ^ 30)
    ∧ (∀ forUs,
      let s := withMerge .p0 (fun m => { m with slots := m.slots.set 0 (some (copyNumbered 0 false .a)) }) up0
      let s := s.withLanes (.of fun _ => { asm := some { partialMessage with forUs := forUs }, queue := [], sent := 0 })
      online s .p0 = true ∧ s.merges.p0.slots[0] = some (copyNumbered 0 false .a)
        ∧ s.lanes.p0.asm = some { partialMessage with forUs := forUs })
    ∧ (let c := { copyNumbered 0 true .a with control := #v[head 0 1 0 0, head 0 18 1 1, 0x80000000, head 7 23 0 0] }
       let s := withMerge .p0 (fun m => { m with slots := m.slots.set 0 (some c) }) up0
       online s .p0 = true ∧ s.latch.cameUp.p0 = false ∧ s.merges.p0.hunting = false ∧ s.merges.p0.slots[0] = some c
         ∧ c.good = true)
    ∧ (∀ hunting asm,
      let lane : Lane := { asm := asm, queue := [], sent := 0 }
      let s := (withMerge .p0 (fun m => { m with hunting := hunting, emptyRun := 10 }) up0).withLanes (.of fun _ => lane)
      online s .p0 = true ∧ s.latch.cameUp.p0 = false ∧ s.merges.p0.hunting = hunting ∧ s.merges.p0.slots[0] = none
        ∧ s.merges.p0.emptyRun < 11 ∧ s.lanes.p0.asm = asm)
    ∧ online State.reset .p0 = false
    ∧ (let s := up0.withLatch { up0.latch with cameUp := up0.latch.cameUp.set .p0 true }
       online s .p0 = true ∧ s.latch.cameUp.p0 = true) :=
  ⟨fun good => ⟨rfl, rfl, rfl, rfl, rfl, by cases good <;> decide +kernel⟩,
   fun _ => ⟨rfl, rfl, rfl⟩, ⟨rfl, rfl, rfl, rfl, rfl⟩, fun _ _ => ⟨rfl, rfl, rfl, rfl, (by decide : 10 < 11), rfl⟩, rfl, rfl, rfl⟩

/-- The frames not built yet, and built ahead. -/
theorem witness_BoundarySendsOneFramePerPortAndMovesOn :
    (State.reset.rstn = true ∧ .build ∉ State.reset.latch.taken ∧ (quiet []).order = [])
    ∧ (let s := State.reset.withLatch { State.reset.latch with taken := [.build] }
       s.rstn = true ∧ .build ∈ s.latch.taken) :=
  ⟨⟨rfl, List.not_mem_nil, rfl⟩, rfl, List.mem_cons_self⟩

theorem witness_BoundaryPlaysEveryOutputFromWhatItsWorkLeaves : State.reset.rstn = true := rfl

/-- Every row of the table of R29, the runs at their bounds, the counts at the bounds of the tolerance. -/
theorem witness_CompletedIntervalMovesTheClockState :
    (∀ state run, state ≠ .unusable →
      let s := withMonitor .p0 (fun m => { m with state := state, run := run, interval := .running }) up0
      s.rstn = true ∧ online s .p0 = true ∧ s.clock.monitors.p0.interval = .running ∧ s.clock.monitors.p0.state ≠ .unusable
        ∧ s.clock.monitors.p0.state = state ∧ s.clock.monitors.p0.run = run)
    ∧ (2456372 ≤ 2456372 ∧ 2456372 ≤ 2458828) ∧ ¬ (2456372 ≤ 2456371 ∧ 2456371 ≤ 2458828) ∧ ¬ (2456372 ≤ 2458829 ∧ 2458829 ≤ 2458828) :=
  ⟨fun _ _ h => ⟨rfl, rfl, rfl, h, rfl, rfl⟩, by decide, by decide, by decide⟩

theorem witness_MessageNotExecutedChangesNothingButPresence :
    (Ready .p0 up0 ∧ refusalOf up0 (.unknownKindMessage .p0 0 ⟨1, 2, [3]⟩) = some (.p0, 0, 1, some .unknown)
      ∧ (Instr.unknownKindMessage .p0 0 ⟨1, 2, [3]⟩).wf = true)
    ∧ (refusalOf up0 (.writeSettingBadItem .p0 ⟨1, 28, [3]⟩) = some (.p0, 18, 1, some .badIndex)
      ∧ (Instr.writeSettingBadItem .p0 ⟨1, 28, [3]⟩).wf = true)
    ∧ (refusalOf up0 (.setGain .p0 ⟨1, 47, [3]⟩) = some (.p0, 7, 1, some .notOwner) ∧ (Instr.setGain .p0 ⟨1, 47, [3]⟩).wf = true)
    ∧ (let s := queued 8 up0
       s.rstn = true ∧ online s .p0 = true ∧ 8 ≤ s.lanes.p0.queue.length
         ∧ refusalOf s (.readClock .p0 ⟨1, 0, []⟩) = some (.p0, 20, 1, none) ∧ (Instr.readClock .p0 ⟨1, 0, []⟩).wf = true) :=
  ⟨⟨ready_up0, by decide +kernel⟩, by decide +kernel, by decide +kernel, by decide +kernel⟩

/-- Each type of control word, with and without a message in progress; lengths 0 and 1, for this unit and another. -/
theorem witness_ControlWordsAssembleMessages :
    (0x00000001 : Word).toNat / 2 ^ 30 = 0 ∧ (head 0 7 0 0).toNat / 2 ^ 30 = 1 ∧ (0x80000000 : Word).toNat / 2 ^ 30 = 2
    ∧ (0xC0000000 : Word).toNat / 2 ^ 30 = 3 ∧ up0.lanes.p0.asm = none
    ∧ (let s := up0.withLanes (.of fun _ => { asm := some partialMessage, queue := [], sent := 0 })
       s.lanes.p0.asm = some partialMessage ∧ partialMessage.forUs = true ∧ partialMessage.length ≤ partialMessage.count + 1)
    ∧ (let a := { partialMessage with forUs := false, length := 2 }
       a.forUs = false ∧ a.count + 1 < a.length)
    ∧ ((head 0 7 0 0).extractLsb' 17 4).toNat = 0 ∧ ((head 0 7 1 0).extractLsb' 17 4).toNat = 1
    ∧ (head 0 7 0 0).extractLsb' 27 3 = 0#1 ++ up0.unitAddr ∧ (head 7 7 0 0).extractLsb' 27 3 = 7
    ∧ (head 1 7 0 0).extractLsb' 27 3 ≠ 0#1 ++ up0.unitAddr
    ∧ messageOf (.unknownKindMessage .p0 63 ⟨0, 0, []⟩) = some (.p0, 63, ⟨0, 0, []⟩)
    ∧ messageOf (.writeAlarmMap .p0 .replyOverrun ⟨0, [1]⟩) = some (.p0, 18, ⟨0, 27, [1]⟩)
    ∧ messageOf (.writeSettingBadItem .p0 ⟨0, 28, [1]⟩) = some (.p0, 18, ⟨0, 28, [1]⟩)
    ∧ messageOf (.keepalive .p0 ⟨0, 0, List.replicate 15 0⟩) = some (.p0, 1, ⟨0, 0, List.replicate 15 0⟩)
    ∧ up0.rstn = true ∧ online up0 .p0 = true := by decide +kernel

/-- An empty queue, and one whose head has its last word left to send. -/
theorem witness_FrameTakesTheNextFourReplyWords :
    (up0.lanes.p0.queue = [] ∧ up0.lanes.p0.sent = 0)
    ∧ (let l : Lane := { asm := none, queue := [⟨6, 0, .done, [1, 2]⟩], sent := 2 }
       match l.queue with
       | [] => l.sent = 0
       | r :: _ => l.sent ≤ r.body.length) := ⟨⟨rfl, rfl⟩, by decide⟩

theorem witness_KeepaliveRestartsThePresenceTimerOnly : up0.rstn = true ∧ online up0 .p0 = true := ⟨rfl, rfl⟩

/-- The whole range of channels, and the last channel alone; these serve the releases too. -/
theorem witness_ClaimChannelsGrantsWhatNoPresentDeskOwns :
    Ready .p0 up0 ∧ refuseRange 47 48 ⟨0, 0, [48]⟩ = none ∧ refuseRange 47 48 ⟨0, 47, [1]⟩ = none :=
  ⟨ready_up0, by decide, by decide⟩

theorem witness_OutputClaimsAndReleasesChangeOwnersOnly :
    Ready .p0 up0 ∧ refuseLength 1 ⟨0, 0, [0xFFFF]⟩ = none ∧ refuseRange 47 48 ⟨0, 47, [1]⟩ = none :=
  ⟨ready_up0, by decide, by decide⟩

theorem witness_PresenceExpiryAppliesThePolicy :
    (∀ policy,
      let s := withSetting (fun t => { t with policy := .of fun _ => policy, timeout := .of fun _ => 0 })
        (State.reset.withPresence (.of fun _ => { present := true, running := true, elapsed := 1499 }))
      NotYetTaken (.presence .p1) s ∧ TimesOut .p1 s ∧ s.settings.timeout.p1 = 0 ∧ s.settings.policy.p1 = policy)
    ∧ (let s := withSetting (fun t => { t with timeout := .of fun _ => 3 })
         (State.reset.withPresence (.of fun _ => { present := true, running := true, elapsed := 11998 }))
       s.presence.p1.running = true ∧ s.settings.timeout.p1 = 3 ∧ s.presence.p1.elapsed + 1 < timeoutCounted .p1 s)
    ∧ (let s := withSetting (fun t => { t with timeout := .of fun _ => 0 })
         (State.reset.withPresence (.of fun _ => { present := true, running := true, elapsed := 1499, held := some 1 }))
       s.presence.p1.running = true ∧ s.presence.p1.elapsed + 1 < timeoutCounted .p1 s)
    ∧ State.reset.presence.p1.running = false
    ∧ (∀ running,
       let s := (State.reset.withPresence (.of fun _ => { present := running, running := running, elapsed := 0 })).withCalls
         (.of fun _ => Vector.replicate 4 { pending := true, acked := true, ending := true })
       NotYetTaken (.presence .p1) s ∧ ¬ TimesOut .p1 s ∧ (∃ k : KeyId, s.calls.p1[k].ending = true)
         ∧ s.presence.p1.running = running) :=
  ⟨fun _ => ⟨⟨rfl, List.not_mem_nil⟩, ⟨rfl, (by decide : 1500 ≤ 1499 + 1)⟩, rfl, rfl⟩,
   ⟨rfl, rfl, (by decide : 11998 + 1 < 12000)⟩, ⟨rfl, (by decide : 1499 + 1 < 3000)⟩, rfl,
   fun _ => ⟨⟨rfl, List.not_mem_nil⟩, fun h => absurd h.2 (by decide : ¬ 6000 ≤ 0 + 1), ⟨3, rfl⟩, rfl⟩⟩

theorem witness_SetGainAndSetPadMakeOrRetargetTheStep :
    Ready .p0 (ownedBy .p0 up0) ∧ (⟨0, 47, [131]⟩ : Msg).arg.toNat = (47 : Chan).val
      ∧ refuseChannel false true .p0 ⟨0, 47, [131]⟩ (ownedBy .p0 up0) = none
      ∧ refuseChannel true true .p0 ⟨0, 47, [1]⟩ (ownedBy .p0 up0) = none :=
  ⟨ready_owner, by decide, by decide +kernel, by decide +kernel⟩

/-- A frame with a crossing and one without; no step, a step at any frames waited (58 waits, 59 is the last), to the
present setting and to another. -/
theorem witness_ForcedStepAppliesThePendingStep :
    HasCrossing 5 (Vector.replicate 8 0)
    ∧ State.reset.channels[(47 : Chan)].pending = none
    ∧ (∀ st, (withChannel 47 (fun ch => { ch with pending := some st }) State.reset).channels[(47 : Chan)].pending = some st)
    ∧ (¬ HasCrossing 5 (Vector.replicate 8 5))
    ∧ (∀ gain, let s := withChannel 47 (fun ch => { ch with last := 5, pending := some { gain := gain, pad := false, waited := 59 } }) State.reset
       NotYetTaken (.capture 47) s ∧ s.channels[(47 : Chan)].pending = some { gain := gain, pad := false, waited := 59 }
         ∧ s.channels[(47 : Chan)].last = 5 ∧ s.channels[(47 : Chan)].gain = 20) :=
  ⟨.inl ⟨0, rfl⟩, rfl, fun _ => rfl, by unfold HasCrossing OppositeSigns; decide +kernel,
   fun _ => ⟨⟨rfl, List.not_mem_nil⟩, rfl, rfl, rfl⟩⟩

/-- Every phantom state with the bank NORMAL and LOCKED_OUT; a counter at 1 in every state. -/
theorem witness_SetPhantomAndTheMuteCounterMoveTheState :
    (∀ state bank, let s := ownedBy .p0 (withBank 1 (fun k => { k with state := bank }) (withChannel 9 (fun ch => { ch with phantom := state }) up0))
      Ready .p0 s ∧ refuseChannel true true .p0 ⟨0, 9, [1]⟩ s = none ∧ refuseChannel true true .p0 ⟨0, 9, [0]⟩ s = none
        ∧ s.channels[(9 : Chan)].phantom = state ∧ s.phantom.banks[bankOf 9].state = bank)
    ∧ (∀ state, let s := withChannel 9 (fun ch => { ch with phantom := state, mute := 1 }) up0
      NotYetTaken (.mute 9) s ∧ s.channels[(9 : Chan)].mute = 1 ∧ s.channels[(9 : Chan)].phantom = state)
    ∧ 1 < (withChannel 9 (fun ch => { ch with phantom := .rampUp, mute := 2 }) up0).channels[(9 : Chan)].mute
    ∧ up0.channels[(9 : Chan)].mute = 0 := by
  refine ⟨fun state bank => ?_, fun _ => ⟨⟨rfl, List.not_mem_nil⟩, rfl, rfl⟩, (by decide : 1 < 2), rfl⟩
  cases state <;> cases bank <;> exact ⟨⟨rfl, rfl, by decide⟩, by decide +kernel, by decide +kernel, rfl, rfl⟩

theorem witness_ReadMetersAnswersAndClearsTheSendersRecords :
    Ready .p0 up0 ∧ (⟨0, 5, []⟩ : Msg).body.length = 0 ∧ (⟨0, 5, []⟩ : Msg).arg.toNat = (5 : BankId).val :=
  ⟨ready_up0, rfl, by decide⟩

theorem witness_RebaseKeepsTheDigitalGain : (-60 : Int) ≤ Track.atReset.gain ∧ Track.atReset.gain ≤ 36 := by decide

/-- The last channel; the flag's ON to OFF, and a flag that is OFF. -/
theorem witness_SetTrimAndSetTrackingActOnTheSendersRecords :
    (Ready .p0 up0 ∧ (⟨0, 47, [0xFFFF]⟩ : Msg).arg.toNat = (47 : Chan).val ∧ (⟨0, 47, [0xFFFF]⟩ : Msg).body.length = 1)
    ∧ refuseSide 48 1 ⟨0, 47, [1]⟩ = none ∧ refuseSide 48 1 ⟨0, 0, [48 + 256]⟩ = none
    ∧ (up0.tracks.p0[(47 : Chan)]).tracking = false :=
  ⟨⟨ready_up0, by decide, rfl⟩, by decide, by decide, rfl⟩

theorem witness_GainFunctionScalesRoundsAndSaturates : (-60 : Int) ≤ -60 ∧ (36 : Int) ≤ 36 ∧ (-60 : Int) ≤ 0 ∧ (0 : Int) ≤ 36 := by
  decide

/-- Readings at 703 and 704 under trip level 704; each state of the bank, the third trip among them. -/
theorem witness_PhantomReadingTripsTheBank :
    (∀ k, let s := withBank 0 (fun _ => k) State.reset
      NotYetTaken .reading s ∧ s.phantom.scan = 0 ∧ s.phantom.banks[(0 : BankId)] = k ∧ tripLevelInForce s = 704)
    ∧ (703#10).toNat < 704 ∧ ¬ (704#10).toNat < 704 :=
  ⟨fun _ => ⟨⟨rfl, List.not_mem_nil⟩, rfl, rfl, rfl⟩, by decide, by decide⟩

/-- A bank whose conversion is not in progress; last readings at 720 and 719. -/
theorem witness_HoldoffAndRetryWatchEnd :
    (∀ last, let s := withBank 1 (fun _ => { state := .holdoff, trips := 1, last := last, timer := 1 }) State.reset
      NotYetTaken (.bank 1) s ∧ s.phantom.scan ≠ 1 ∧ s.phantom.banks[(1 : BankId)].state = .holdoff
        ∧ s.phantom.banks[(1 : BankId)].timer = 1 ∧ s.phantom.banks[(1 : BankId)].last = last ∧ tripLevelInForce s + 16 = 720)
    ∧ (let s := withBank 1 (fun k => { k with state := .retry, timer := 59999 }) State.reset
       NotYetTaken (.bank 1) s ∧ s.phantom.scan ≠ 1 ∧ s.phantom.banks[(1 : BankId)].state = .retry
         ∧ s.phantom.banks[(1 : BankId)].timer = 59999)
    ∧ (State.reset.phantom.scan = (0 : BankId) ∧ .reading ∉ State.reset.latch.taken)
    ∧ (let s := takeWork State.reset (.bank 1)
       s.phantom.scan ≠ 1 ∧ .bank 1 ∈ s.latch.taken)
    ∧ (let s := withBank 0 (fun k => { k with state := .holdoff, timer := 2 }) (State.reset.withLatch { State.reset.latch with taken := [.reading] })
       .reading ∈ s.latch.taken ∧ .bank 0 ∉ s.latch.taken ∧ s.phantom.banks[(0 : BankId)].state = .holdoff
         ∧ 1 < s.phantom.banks[(0 : BankId)].timer)
    ∧ (let s := withBank 1 (fun k => { k with state := .retry, timer := 59998 }) State.reset
       s.phantom.scan ≠ 1 ∧ .bank 1 ∉ s.latch.taken ∧ s.phantom.banks[(1 : BankId)].state = .retry
         ∧ s.phantom.banks[(1 : BankId)].timer < 59999)
    ∧ (State.reset.phantom.scan ≠ 1 ∧ State.reset.phantom.banks[(1 : BankId)].state = .normal)
    ∧ (withBank 1 (fun k => { k with state := .lockedOut }) State.reset).phantom.banks[(1 : BankId)].state = .lockedOut :=
  ⟨fun _ => ⟨⟨rfl, List.not_mem_nil⟩, (by decide : (0 : BankId) ≠ 1), rfl, rfl, rfl, rfl⟩, ⟨⟨rfl, by decide⟩, by decide, rfl, rfl⟩,
   ⟨rfl, by decide⟩, by decide +kernel, by decide +kernel, by decide +kernel, by decide +kernel, rfl⟩

theorem witness_PhantomResetRetriesAHeldBank :
    ∀ state, let s := ownedBy .p0 (withBank 5 (fun k => { k with state := state }) up0)
      Ready .p0 s ∧ refusePhantomReset .p0 ⟨0, 5, []⟩ s = none ∧ (⟨0, 5, []⟩ : Msg).arg.toNat = (5 : BankId).val
        ∧ s.phantom.banks[(5 : BankId)].state = state :=
  fun state => by cases state <;> exact ⟨⟨rfl, rfl, by decide⟩, by decide +kernel, by decide, rfl⟩

/-- 32 behind, and 33 behind, a journal of 32 entries. -/
theorem witness_ReadChangesAnswersWhatTheJournalHolds :
    let s := up0.withJournal wrapped
    let at_ (low : Payload) : Msg := ⟨0, 0, [low, 65535]⟩
    Ready .p0 s ∧ refuseChanges (at_ 65507) s = none ∧ refuseChanges (at_ 65506) s = none ∧ s.journal.entries.length = 32
      ∧ (s.journal.gen.toNat + 4294967296 - generationNamed (at_ 65507)) % 4294967296 = 32
      ∧ (s.journal.gen.toNat + 4294967296 - generationNamed (at_ 65506)) % 4294967296 = 33 :=
  ⟨⟨rfl, rfl, by decide⟩, by decide +kernel⟩

theorem witness_PlainSettingWritesStoreTheirItem :
    Ready .p0 up0 ∧ refuseItem (.timeout .p2) ⟨0, [3]⟩ = none ∧ refuseItem (.policy .p2) ⟨0, [1]⟩ = none
      ∧ refuseItem .trip ⟨0, [3]⟩ = none ∧ refuseItem .talkSource ⟨0, [47]⟩ = none
      ∧ refuseItem .talkLevel ⟨0, [0xFFFF]⟩ = none ∧ refuseItem .duckDepth ⟨0, [0xFFFF]⟩ = none
      ∧ (∀ taken, let s := withTaken taken (up0.withPresence (.of fun _ => { present := true, running := true, elapsed := 1 }))
         Ready .p0 s ∧ s.presence.p2.running = true ∧ s.latch.taken = taken)
      ∧ up0.presence.p2.running = false :=
  ⟨ready_up0, by decide, by decide, by decide, by decide, by decide, by decide,
   fun _ => ⟨⟨rfl, rfl, (by decide : 0 < 8)⟩, rfl, rfl⟩, rfl⟩

/-- The list P2, P0, and the empty list. -/
theorem witness_ClockPriorityWriteReselectsTheSource :
    Ready .p0 up0 ∧ refuseItem .clockPriority ⟨0, [18]⟩ = none ∧ [Port.p2, Port.p0].map portNo = priorityEntries 18
      ∧ refuseItem .clockPriority ⟨0, [0]⟩ = none ∧ ([] : List Port).map portNo = priorityEntries 0 :=
  ⟨ready_up0, by decide, by decide, by decide, by decide⟩

/-- P0 on both paths, A the reference, and P0 the selected source. -/
def dual0 : State :=
  let s := withMonitor .p0 (fun m => { m with state := .good, ref := some .a, interval := .running })
    (withPath .p0 .b (fun r => { r with state := .up }) up0)
  s.withClock { s.clock with source := some .p0 }

/-- A write that takes the sender OFFLINE, one that changes nothing, and one that disables the reference path of a port
that stays ONLINE; the outputs after reset meet `OutputsOk`. -/
theorem witness_PathEnableWriteDisablesAndEnablesPaths :
    OutputsOk up0
    ∧ (Ready .p0 dual0 ∧ dual0.clock.monitors.p0.ref = some .a ∧ Carrying .p0 .a dual0 ∧ dual0.clock.source = some .p0
        ∧ online (after (.writePathEnable .p0 ⟨0, [0x3E]⟩) dual0) .p0 = true)
    ∧ Ready .p0 up0 ∧ refuseItem .pathEnable ⟨0, [0x3E]⟩ = none
      ∧ (online up0 .p0 = true ∧ online (after (.writePathEnable .p0 ⟨0, [0x3E]⟩) up0) .p0 = false)
      ∧ online (after (.writePathEnable .p0 ⟨0, [0x3F]⟩) up0) .p0 = true :=
  ⟨by unfold OutputsOk; decide +kernel, ⟨⟨rfl, rfl, by decide⟩, rfl, .inl rfl, rfl, by decide +kernel⟩,
   ready_up0, by decide, by decide +kernel, by decide +kernel⟩

/-- R189: the port bits of a source that is NONE are 3. -/
theorem test_none_source_port_bits : sourceField 0 0 none / 2 % 4 = 3 ∧ sourceField 7 0 none / 256 % 4 = 3 := by
  simp only [sourceField, fieldAt, partyCode]
  omega

theorem witness_KeyConfigWriteActsOnTheKeyAndItsCalls : Ready .p0 up0 ∧ refuseItem (.key 3) ⟨0, [0x1F]⟩ = none :=
  ⟨ready_up0, by decide⟩

theorem witness_AlarmLinesFollowTheMapAndTheStretchTimers :
    (Ready .p0 up0 ∧ refuseItem (.alarm .replyOverrun) ⟨0, [2]⟩ = none)
    ∧ (let s := State.reset.withFaults { State.reset.faults with stretch := ⟨0, 1⟩ }
       NotYetTaken (.stretch .line1) s ∧ s.faults.stretch.line1 = 1)
    ∧ 1 < (State.reset.withFaults { State.reset.faults with stretch := ⟨0, 2⟩ }).faults.stretch.line1
    ∧ State.reset.faults.stretch.line1 = 0 :=
  ⟨⟨ready_up0, by decide⟩, ⟨⟨rfl, by decide⟩, rfl⟩, (by decide : 1 < 2), rfl⟩

/-- Both sources present, and none. -/
theorem witness_SetOutputPlacesTheOutputAfresh :
    let s := ownedBy .p0 up0
    Ready .p0 s ∧ (⟨0, 15, [0]⟩ : Msg).arg.toNat = (15 : OutId).val ∧ refuseOutput .p0 ⟨0, 15, [0]⟩ s = none
      ∧ refuseOutput .p0 ⟨0, 15, [0xBEFD]⟩ s = none :=
  ⟨ready_owner, by decide, by decide +kernel, by decide +kernel⟩

/-- P0 ONLINE with channel 8 flagged: available; the same after the port is OFFLINE: not. So its loss and its return both
come about, for a primary and for a backup. -/
theorem witness_OutputFollowsItsSourcesAndItsHoldoff :
    (let s := withMerge .p0 (fun m => { m with mask := 0x0100 }) up0
     available s (some ⟨.p0, 8⟩) = true ∧ available State.reset (some ⟨.p0, 8⟩) = false ∧ available s (some ⟨.p1, 8⟩) = false)
    ∧ (let s := withOutput 15 (fun o => { o with primary := some ⟨.p0, 8⟩, failed := true, holdoff := 1 })
         (withMerge .p0 (fun m => { m with mask := 0x0100 }) up0)
       NotYetTaken (.holdoff 15) s ∧ s.outputs[(15 : OutId)].failed = true ∧ available s s.outputs[(15 : OutId)].primary = true
         ∧ s.outputs[(15 : OutId)].holdoff = 1)
    ∧ (let s := withOutput 15 (fun o => { o with primary := some ⟨.p0, 8⟩, failed := true, holdoff := 2 })
         (withMerge .p0 (fun m => { m with mask := 0x0100 }) up0)
       s.outputs[(15 : OutId)].failed = true ∧ available s s.outputs[(15 : OutId)].primary = true
         ∧ 1 < s.outputs[(15 : OutId)].holdoff)
    ∧ up0.outputs[(15 : OutId)].failed = false
    ∧ (let s := withOutput 15 (fun o => { o with primary := some ⟨.p1, 8⟩, failed := true, holdoff := 12000 }) up0
       s.outputs[(15 : OutId)].failed = true ∧ available s s.outputs[(15 : OutId)].primary = false) :=
  ⟨by decide +kernel, ⟨⟨rfl, by decide⟩, rfl, by decide +kernel, rfl⟩, by decide +kernel, rfl, by decide +kernel⟩

theorem witness_OutputSampleMixesProgrammeAndTalk :
    (Output.atReset.wp + Output.atReset.wb ≤ 480 ∧ Output.atReset.duck ≤ 480)
      ∧ 0 ≤ State.reset.settings.duckDepth ∧ State.reset.settings.duckDepth ≤ 60 := by decide

/-- Ranges at their ends. -/
theorem witness_ReadsOfTablesAnswerTheStateAsItStands :
    Ready .p0 up0 ∧ refuseLength 0 ⟨0, 0, []⟩ = none ∧ refuseSide 15 2 ⟨0, 33, [15 + 2 * 256]⟩ = none
      ∧ word ⟨0, 33, [15 + 2 * 256]⟩ 0 / 256 % 4 = portNo .p2 ∧ refuseRange 47 14 ⟨0, 34, [14]⟩ = none
      ∧ refuseRange 15 5 ⟨0, 11, [5]⟩ = none :=
  ⟨ready_up0, by decide, by decide, by decide, by decide, by decide⟩

theorem witness_ReadClockAndReadSettingsAnswerTheStateAsItStands : Ready .p0 up0 ∧ refuseLength 0 ⟨0, 0, []⟩ = none :=
  ⟨ready_up0, by decide⟩

theorem witness_TalkAndAckCallActOnTheSendersOwnTables :
    (Ready .p0 up0 ∧ refuseLength 1 ⟨0, 0, [0xFFFF]⟩ = none ∧ (⟨0, 3, []⟩ : Msg).body.length = 0
      ∧ (⟨0, 3, []⟩ : Msg).arg.toNat = (3 : KeyId).val)
    ∧ ∀ state e,
      let s := (withKey 3 (fun r => { r with state := state }) up0).withCalls (.of fun _ => Vector.replicate 4 e)
      let s := s.withPresence (.of fun _ => { present := true, running := true, elapsed := 5999 })
      Ready .p0 s ∧ s.keys[(3 : KeyId)].state = state ∧ s.calls.p0[(3 : KeyId)] = e
        ∧ .presence .p0 ∉ s.latch.taken ∧ TimesOut .p0 s :=
  ⟨⟨ready_up0, by decide, rfl, by decide⟩,
   fun _ _ => ⟨⟨rfl, rfl, (by decide : 0 < 8)⟩, rfl, rfl, List.not_mem_nil, rfl, (by decide : 6000 ≤ 5999 + 1)⟩⟩

theorem witness_DebouncedPressAndReleaseMoveTheKey :
    (∀ down, let s := withKey 3 (fun r => { r with down := down, stab := 23 }) State.reset
      NotYetTaken (.key 3) s ∧ s.keys[(3 : KeyId)].down = down ∧ s.keys[(3 : KeyId)].stab = 23)
    ∧ (∀ down, let s := withKey 3 (fun r => { r with down := down, stab := 22 }) (State.reset.withLatch
         { State.reset.latch with keyLow := Vector.replicate 4 (!down) })
       s.latch.keyLow[(3 : KeyId)] ≠ s.keys[(3 : KeyId)].down ∧ s.keys[(3 : KeyId)].stab < 23)
    ∧ (let s := withKey 3 (fun r => { r with state := .arming, down := false, stab := 23 }) State.reset
       s.latch.keyLow[(3 : KeyId)] = s.keys[(3 : KeyId)].down ∧ s.keys[(3 : KeyId)].state = .arming) :=
  ⟨fun _ => ⟨⟨rfl, List.not_mem_nil⟩, rfl, rfl⟩, by decide +kernel, by decide +kernel⟩

theorem witness_ClearFaultsKeepsActiveConditions : Ready .p0 up0 ∧ refuseLength 1 ⟨0, 0, [0xFFF]⟩ = none :=
  ⟨ready_up0, by decide⟩

/-! Each kept rule holds in a state other than that after reset, and each such state has a next one. -/

theorem witness_some_step (s : State) (h : s.pending = []) : step s = .next s := by rw [step, h]

theorem witness_StepKeepsTheJournal : JournalOk (up0.withJournal wrapped) := by
  refine ⟨by decide +kernel, ?_⟩
  have h : ∀ i : Fin 32, (wrapped.entries[i.val]'(by exact i.isLt)).gen + BitVec.ofNat 32 (31 - i.val) = 3 := by decide +kernel
  exact fun i hi => h ⟨i, hi⟩

theorem witness_StepKeepsTheLanes : LanesOk (queued 8 up0) := by
  intro p
  cases p
  · exact ⟨by decide, fun h => absurd h (by decide), (by decide : 0 < 1 + 0)⟩
  · exact ⟨by decide, fun _ => ⟨rfl, rfl⟩, rfl⟩
  · exact ⟨by decide, fun _ => ⟨rfl, rfl⟩, rfl⟩

theorem witness_StepKeepsTheOutputs :
    let s := withOutput 4 (fun o => { o with primary := some ⟨.p0, 8⟩, action := .backup, sel := .backup, failed := true
                                             holdoff := 12000, wp := 240, wb := 240, duck := 480 }) up0
    OutputsOk s ∧ WeightsOk s := by unfold OutputsOk WeightsOk; decide +kernel

/-- A channel whose phantom power is on, with a step that waits. -/
def busyChannel : Channel :=
  { gain := 130, pad := true, eff := 90, pending := some { gain := 10, pad := false, waited := 59 }, request := true
    phantom := .rampUp, mute := 1800, last := 0, sent := { gain := 130, pad := true, feed := true } }

/-- A bank that watches its retry, the timer one count from its end. -/
def watchedBank : Bank := { state := .retry, trips := 2, last := 1023, timer := 59999 }

/-- Every channel and every bank so. -/
def busyStage : State :=
  (State.reset.withChannels (Vector.replicate 48 busyChannel)).withPhantom { banks := Vector.replicate 6 watchedBank, scan := 5 }

theorem witness_StepKeepsHeadAmplifiersPhantomPowerAndBanks : HeadAmpsOk busyStage ∧ PhantomOk busyStage ∧ BanksOk busyStage := by
  have h : ∀ c : Chan, busyStage.channels[c] = busyChannel := fun _ => Vector.getElem_replicate ..
  have hb : ∀ b : BankId, busyStage.phantom.banks[b] = watchedBank := fun _ => Vector.getElem_replicate ..
  refine ⟨fun c => ?_, fun c => ?_, fun b => ?_⟩
  · simp only [h]
    refine ⟨by decide, by decide, by decide, fun st hst => ?_, by decide, by decide, by decide⟩
    cases hst
    decide
  · simp only [h, hb]
    decide
  · simp only [hb]
    exact ⟨by decide, by decide, by decide⟩

/-- A tracking record at its limit: T 36, A 30 against an E of 20. -/
def limitedTrack : Track := { trim := 36, anchor := 30, tracking := true, gain := 36, limited := true, period := 36 }

theorem witness_StepKeepsTheTrackingTable : TracksOk (State.reset.withTracks (.of fun _ => Vector.replicate 48 limitedTrack)) := by
  intro p c
  have h : ((PerPort.of fun _ => Vector.replicate 48 limitedTrack).get p)[c] = limitedTrack := by
    cases p <;> exact Vector.getElem_replicate ..
  have hc : State.reset.channels[c] = Channel.atReset := Vector.getElem_replicate ..
  have ho : State.reset.owners.chan[c] = none := Vector.getElem_replicate ..
  simp only [State.withTracks, h, hc, ho]
  exact ⟨by decide, by decide, fun hh => absurd hh (by simp [limitedTrack])⟩

theorem witness_StepKeepsTheFaultBlock : FaultsOk (settle up0) := by
  refine ⟨fun p => ?_, fun l => ?_⟩
  · cases p <;> decide +kernel
  · cases l <;> decide +kernel

/-- Every key PRESSED, every port PRESENT and called. -/
def calledState : State :=
  let conf : KeyConfig := { enabled := true, latch := false, ports := .of fun _ => true }
  let key : Key := { state := .pressed, down := true, stab := 0, toggle := false }
  let s := withSetting (fun t => { t with keys := Vector.replicate 4 conf }) (State.reset.withKeys (Vector.replicate 4 key))
  (s.withPresence (.of fun _ => { present := true, running := true, elapsed := 0 })).withCalls
    (.of fun _ => Vector.replicate 4 { pending := true, acked := true, ending := true })

theorem witness_StepKeepsTheCallTable : CallsOk calledState := by
  intro k
  have h : ∀ k : KeyId, calledState.keys[k].state = .pressed ∧ calledState.settings.keys[k].enabled = true := by decide +kernel
  refine ⟨by rw [(h k).1, (h k).2]; decide, fun p => ?_⟩
  revert k
  cases p <;> decide +kernel

theorem witness_StepKeepsTheClockSelection :
    ClockOk ((withMonitor .p0 (fun m => { m with state := .good }) up0).withClock
      { source := some .p0, switched := false
        monitors := .of fun p => if p = .p0 then { Monitor.atReset with state := .good } else Monitor.atReset }) := by
  refine ⟨by decide, fun p => ?_⟩
  cases p <;> decide +kernel

theorem witness_StepKeepsThePathsAndWindows :
    let s := withMerge .p0 (fun m => { m with slots := m.slots.set 0 (some (copyNumbered 0 true .a)) }) up0
    PathsOk s ∧ WindowsOk s := by
  intro s
  refine ⟨fun p x => ?_, fun p => ⟨fun d c hc => ?_, fun hh d => ?_⟩⟩
  · cases p <;> cases x <;> decide +kernel
  · have h : ∀ d : Fin 4, (s.merges.get p).slots[d] = none ∨
        (d = 0 ∧ p = .p0 ∧ (s.merges.get p).slots[d] = some (copyNumbered 0 true .a)) := by cases p <;> decide +kernel
    rcases h d with h | ⟨rfl, rfl, h⟩
    · rw [h] at hc
      cases hc
    · rw [h] at hc
      cases hc
      decide +kernel
  · cases p
    · exact absurd hh (by decide)
    all_goals
      revert d
      decide +kernel

end Sys2Proof.Tests
end

section
/-! SUPPORT and PROOFS. A copy that arrives from a carrying path and is placed in its port's merge window: what the arrival
leaves in every block but the port's window, the placements of R14 and R16, and the statements about them. -/
namespace Sys2Proof.Safety

open Sys2Proof.Machine

/-! ## One table entry written twice -/

@[simp] theorem PerPort.set_set_self {α : Type} (t : PerPort α) (p : Port) (v w : α) :
    (t.set p v).set p w = t.set p w := by
  cases p <;> rfl

@[simp] theorem PerPath.set_set_self {α : Type} (t : PerPath α) (x : PathName) (v w : α) :
    (t.set x v).set x w = t.set x w := by
  cases x <;> rfl

/-! ## A report of conditions (R180) -/

/-- From flags `a` set and `d` active, a report of the conditions `n` clears no flag, sets none that is not in `n`, and
leaves no condition active that was neither active nor is flagged: so it is bit by bit. -/
theorem report_bits (a n d e : BitVec 12) :
    a &&& ~~~(a ||| (n &&& ~~~d)) = 0
    ∧ (a ||| (n &&& ~~~d)) &&& ~~~(a ||| (n ||| e)) = 0
    ∧ n &&& ~~~(d ||| (a ||| (n &&& ~~~d))) = 0 := by
  have bits : ∀ a n d e : Bool, (a && !(a || (n && !d))) = false ∧ ((a || (n && !d)) && !(a || (n || e))) = false
      ∧ (n && !(d || (a || (n && !d)))) = false := by decide
  refine ⟨?_, ?_, ?_⟩
  all_goals
    ext i hi
    obtain ⟨hkept, hset, hactive⟩ := bits a[i] n[i] d[i] e[i]
    simp only [BitVec.getElem_and, BitVec.getElem_or, BitVec.getElem_not, BitVec.ofNat_eq_ofNat, BitVec.getElem_zero]
    assumption

/-- A report made after an operation that left the fault block alone is the only report on the way. -/
theorem onlyConditionsReported_settle {s t : State} (h : t.faults = s.faults) :
    OnlyConditionsReported s (settle t) := by
  refine ⟨fun p => ?_, by rw [settle_stretch, h], settle_driven t⟩
  obtain ⟨hkept, hset, hactive⟩ := report_bits (s.faults.sticky.get p) (conditionsOf t p) (s.faults.active.get p)
    (conditionsOf s p &&& ~~~ s.faults.active.get p)
  simp only [reportable, settle_active, settle_sticky, conditionsOf_settle, h]
  exact ⟨trivial, hkept, hset, hactive⟩

/-! ## The placement (R14, R16) -/

/-- An EMPTY slot takes the copy. -/
theorem placeInSlot_of_empty {d : Fin 4} {m : Merge} (c : Copy) (h : m.slots[d] = none) :
    placeInSlot d c m = { m with slots := vset m.slots d (some c) } := by
  simp only [placeInSlot, h]

/-- A GOOD copy takes the place of a SUSPECT one. -/
theorem placeInSlot_of_suspect {d : Fin 4} {c held : Copy} {m : Merge} (h : m.slots[d] = some held)
    (hheld : held.good = false) (hc : c.good = true) :
    placeInSlot d c m = { m with slots := vset m.slots d (some c) } := by
  simp [placeInSlot, h, hheld, hc]

/-- Any other copy for an occupied slot is a duplicate. -/
theorem placeInSlot_of_duplicate {d : Fin 4} {c held : Copy} {m : Merge} (h : m.slots[d] = some held)
    (hdup : held.good = true ∨ c.good = false) : placeInSlot d c m = { m with dups := m.dups + 1 } := by
  rcases hdup with hdup | hdup <;> simp [placeInSlot, h, hdup]

section
variable {p : Port} {c : Copy} {s : State}

theorem placeCopy_of_within {d : Fin 4} (hrun : (s.merges.get p).hunting = false)
    (hd : (c.frameNo - (s.merges.get p).playNo).toNat = d.val) :
    placeCopy p c s = setMerge p (placeInSlot d c (s.merges.get p)) s := by
  simp [placeCopy, distance, hrun, hd]

theorem placeCopy_of_late (hrun : (s.merges.get p).hunting = false)
    (hd : 2048 ≤ (c.frameNo - (s.merges.get p).playNo).toNat) :
    placeCopy p c s = setMerge p { s.merges.get p with lates := (s.merges.get p).lates + 1 } s := by
  have h4 : ¬ (c.frameNo - (s.merges.get p).playNo).toNat < 4 := by omega
  have h2048 : ¬ (c.frameNo - (s.merges.get p).playNo).toNat < 2048 := by omega
  simp only [placeCopy, distance, hrun, h4, h2048, Bool.false_eq_true, if_false, dite_false]

end

@[simp] theorem setMerge_merges (p : Port) (m : Merge) (s : State) : (setMerge p m s).merges = s.merges.set p m := rfl

@[simp] theorem raiseAll_merges (k : FaultKind) (s : State) : (raiseAll k s).merges = s.merges :=
  raiseAll_frame k s .merges (by decide)

@[simp] theorem settle_merges (s : State) : (settle s).merges = s.merges := settle_frame s .merges (by decide)

/-- A copy reaches the window of its own port only. -/
theorem placeCopy_other_merges (p : Port) (c : Copy) (s : State) {q : Port} (hq : q ≠ p) :
    (placeCopy p c s).merges.get q = s.merges.get q := by
  have hset (m : Merge) : (setMerge p m s).merges.get q = s.merges.get q := PerPort.get_set_ne _ _ hq
  unfold placeCopy
  dsimp only
  split
  · exact hset _
  · split
    · exact hset _
    · split
      · rw [raiseAll_merges, hset]
      · exact hset _

/-! ## The arrival at a carrying path (R3) -/

/-- The state in which the merge takes a copy that arrives from a carrying path: the receiver has recorded it, and an
interval that waited for the arrival has begun. -/
def passing (p : Port) (x : PathName) (c : Copy) (s : State) : State :=
  (s.withPaths (pathsWith p x (arrivedAt c ((s.paths.get p).get x)) s)).withClock (clockAtArrival p x s)

@[simp] theorem passing_merges (p x c s) : (passing p x c s).merges = s.merges := rfl

theorem passing_frame (p x c s) : SameExcept [.paths, .clock] s (passing p x c s) := by
  intro b hb
  cases b <;> first | rfl | simp at hb

theorem endPeriod_eq (p x s) : endPeriod p x s = s.withClock (clockAtArrival p x s) := by
  simp only [endPeriod, clockAtArrival, Bool.and_eq_true, beq_iff_eq]
  split <;> rfl

/-- What a carrying path does with an arrival: both UP and DEGRADED record it and pass it on. -/
theorem takeArrival_of_carrying {p : Port} {x : PathName} {s : State} (c : Copy) (h : Carrying p x s) :
    takeArrival p x c s = placeCopy p c (setPath p x
      { recordArrival c (pathRec s p x) with
        suspectCount := if c.good then (pathRec s p x).suspectCount else min 255 ((pathRec s p x).suspectCount + 1) } s) := by
  rcases h with h | h <;> simp only [takeArrival, pathRec, h]

/-- The receiver's two writes of its record, its place in the stream and what it records of the copy, are one. -/
theorem takeArrival_of_examining {p : Port} {x : PathName} {s : State} (c : Copy) (h : Carrying p x s) :
    takeArrival p x c (endPeriod p x (setPath p x { pathRec s p x with rx := .nextWord } s))
      = placeCopy p c (passing p x c s) := by
  rw [endPeriod_eq, takeArrival_of_carrying c (by simpa [Carrying, setPath, pathRec] using h)]
  simp only [setPath, pathRec, State.withClock_fields, State.withPaths_fields, PerPort.get_set_self,
    PerPort.set_set_self, PerPath.get_set_self, PerPath.set_set_self]
  rfl

/-- FRAME_ARRIVAL at a carrying path: the copy is placed in the port's window, then the conditions are reported. -/
theorem exec_frameArrival_of_carrying {p : Port} {x : PathName} {f : Frame} {s : State} (ha : Arrives p x f s)
    (hc : Carrying p x s) :
    exec (.frameArrival p x f) s = .next (settle (placeCopy p (copyOf x f) (passing p x (copyOf x f) s))) := by
  obtain ⟨hrstn, hsync, henabled, hsignal⟩ := ha
  have hreceiving : receiving s p x = true := by simp [receiving, pathRec, hasSignal, henabled, hsignal]
  have htaken : (receiving s p x && f[0] == syncWord) = true := Bool.and_eq_true_iff.mpr ⟨hreceiving, hsync⟩
  have hexec : exec (.frameArrival p x f) s = .next (if s.rstn then arriveFrame p x f s else s) := rfl
  rw [hexec, if_pos hrstn, arriveFrame, if_pos htaken]
  dsimp only
  rw [takeArrival_of_examining _ hc]

/-- Wherever the copy is placed, the arrival leaves all but the port's window and the reports as R3 says. -/
theorem passedOn_placeCopy (p x c s) : PassedOn p x c s (settle (placeCopy p c (passing p x c s))) := by
  have hplace : SameExcept [.merges, .faults] (passing p x c s) (settle (placeCopy p c (passing p x c s))) :=
    (placeCopy_frame p c _).seq (settle_frame _)
  refine ⟨hplace .paths (by decide), hplace .clock (by decide), fun q hq => ?_, (passing_frame p x c s).seq hplace⟩
  rw [settle_merges, placeCopy_other_merges p c _ hq, passing_merges]

/-- A placement that only writes the port's window raises no event: this is what the arrival leaves behind it then. -/
theorem frameArrival_writes_window {p : Port} {x : PathName} {f : Frame} {s : State} {m : Merge} (ha : Arrives p x f s)
    (hc : Carrying p x s)
    (hplace : placeCopy p (copyOf x f) (passing p x (copyOf x f) s) = setMerge p m (passing p x (copyOf x f) s)) :
    ∃ t, exec (.frameArrival p x f) s = .next t ∧ t.merges.get p = m ∧ PassedOn p x (copyOf x f) s t
      ∧ OnlyConditionsReported s t := by
  refine ⟨_, exec_frameArrival_of_carrying ha hc, ?_, passedOn_placeCopy .., ?_⟩
  · rw [hplace, settle_merges, setMerge_merges, PerPort.get_set_self]
  · rw [hplace]
    exact onlyConditionsReported_settle rfl

/-! ## The statements -/

/-- Settles O7: the arrival writes what R14 makes of the slot at the copy's distance, case by case of what it holds. -/
theorem copyWithinTheWindowIsStoredOrCountedDuplicate :
    Obligations.CopyWithinTheWindowIsStoredOrCountedDuplicate := by
  intro p x f s d ha hc c m hrun hd
  obtain ⟨t, hexec, hwindow, hpassed, hreported⟩ :=
    frameArrival_writes_window ha hc (placeCopy_of_within (s := passing p x c s) hrun hd)
  refine ⟨t, hexec, fun hempty => ?_, fun held hslot hheld hgood => ?_, fun held hslot hdup => ?_, hpassed, hreported⟩
  · exact hwindow.trans (placeInSlot_of_empty c hempty)
  · exact hwindow.trans (placeInSlot_of_suspect hslot hheld hgood)
  · exact hwindow.trans (placeInSlot_of_duplicate hslot hdup)

/-- Settles O9: at such a distance the arrival writes nothing of the window but the late count. -/
theorem lateCopyIsDiscarded : Obligations.LateCopyIsDiscarded := by
  intro p x f s ha hc c m hrun hd
  exact frameArrival_writes_window ha hc (placeCopy_of_late (s := passing p x c s) hrun hd)

end Sys2Proof.Safety
end

section
/-! SUPPORT and PROOFS. A completed interval of a port's clock monitor: the verdict row by row (R29), the selection
re-evaluated (R32), an event and a report that fall together (R180), and the statement about the interval. -/
namespace Sys2Proof.Safety

open Sys2Proof.Machine

/-! ## An event followed by a report of conditions (R180, R186) -/

/-- From flags `a` set, an event's flags `k` and a report of the conditions `n`, `d` of them active before, clear no flag,
set those of `k`, and set none that is neither in `k` nor in `n`: so it is bit by bit. -/
theorem event_report_bits (a k n d e : BitVec 12) :
    a &&& ~~~(a ||| k ||| (n &&& ~~~d)) = 0
    ∧ (a ||| k ||| (n &&& ~~~d)) &&& k = k
    ∧ (a ||| k ||| (n &&& ~~~d)) &&& ~~~(a ||| (n ||| e) ||| k) = 0 := by
  have bits : ∀ a k n d e : Bool, (a && !(a || k || (n && !d))) = false ∧ ((a || k || (n && !d)) && k) = k
      ∧ ((a || k || (n && !d)) && !(a || (n || e) || k)) = false := by decide
  refine ⟨?_, ?_, ?_⟩
  all_goals
    ext i hi
    obtain ⟨hkept, hraised, hset⟩ := bits a[i] k[i] n[i] d[i] e[i]
    simp only [BitVec.getElem_and, BitVec.getElem_or, BitVec.getElem_not, BitVec.ofNat_eq_ofNat, BitVec.getElem_zero]
    assumption

/-- Flags within one mask are within a wider one. -/
theorem within_or {c r : BitVec 12} (h : c &&& ~~~r = 0) (k : BitVec 12) : c &&& ~~~(r ||| k) = 0 := by
  rw [BitVec.not_or, ← BitVec.and_assoc, h]
  exact BitVec.zero_and

/-- The stretch timers after an event, line by line (R186). -/
theorem raiseFor_stretch_get (scope k s) (l : Line) :
    (raiseFor scope k s).faults.stretch.get l
      = if s.settings.alarmMap[faultNo k] = some l then 6000 else s.faults.stretch.get l := by
  rw [raiseFor_stretch, lineOf]
  cases hline : s.settings.alarmMap[faultNo k] with
  | none => simp
  | some l' =>
    by_cases h : l = l'
    · simp [h]
    · simp [h, Ne.symm h]

/-- A report made after an operation that raised one event in the fault block, and changed it otherwise not, leaves that
event and the conditions reported. -/
theorem eventReported_settle {scope : Port → Bool} {P : Port → Prop} {k : FaultKind} {s r t : State}
    (hscope : ∀ p, P p ↔ scope p = true) (hr : r.faults = s.faults) (hsettings : r.settings = s.settings)
    (ht : t.faults = (raiseFor scope k r).faults) : EventReported P k s (settle t) := by
  refine ⟨fun p => ?_, .inr fun p => ?_, fun l => ?_, settle_driven t⟩
  · simp only [reportable, conditionsOf_settle, settle_sticky, hscope, ht, raiseFor_active, raiseFor_sticky, hr]
    by_cases h : scope p = true
    · obtain ⟨hkept, hraised, hset⟩ := event_report_bits (s.faults.sticky.get p) (faultBit k) (conditionsOf t p)
        (s.faults.active.get p) (conditionsOf s p &&& ~~~ s.faults.active.get p)
      rw [if_pos h]
      exact ⟨hkept, fun _ => hraised, hset, fun hout => absurd h hout⟩
    · obtain ⟨hkept, hset, -⟩ := report_bits (s.faults.sticky.get p) (conditionsOf t p)
        (s.faults.active.get p) (conditionsOf s p &&& ~~~ s.faults.active.get p)
      rw [if_neg h]
      exact ⟨hkept, fun hin => absurd hin h, within_or hset _, fun _ => hset⟩
  · rw [settle_active, conditionsOf_settle]
  · rw [settle_stretch, ht, raiseFor_stretch_get, hr, hsettings]

/-! ## The selection re-evaluated (R32) -/

@[simp] theorem settle_clock (s : State) : (settle s).clock = s.clock := settle_frame s .clock (by decide)

/-- The source is the first GOOD port of CLOCK_PRIORITY, or LOCAL. -/
theorem reselect_source (s : State) :
    (reselect s).clock.source = firstGood s.settings.clockPriority (reselect s).clock := rfl

/-- A change of source is a switch, and no other switch is recorded or forgotten (R26). -/
theorem reselect_switched (s : State) :
    (reselect s).clock.switched = true ↔ s.clock.switched = true ∨ (reselect s).clock.source ≠ s.clock.source := by
  simp [reselect]

/-! ## The verdict (R29) -/

/-- A verdict moves the clock state and the run only. -/
theorem verdict_keeps (ok : Bool) (m : Monitor) :
    (verdict ok m).last = m.last ∧ (verdict ok m).ref = m.ref ∧ (verdict ok m).interval = m.interval := by
  unfold verdict
  split
  case h_2 | h_5 | h_6 => split <;> exact ⟨rfl, rfl, rfl⟩
  all_goals exact ⟨rfl, rfl, rfl⟩

section
variable {m : Monitor}

theorem verdict_good_in (hgood : m.state = .good) : verdict true m = { m with run := 0 } := by
  simp only [verdict, hgood]

theorem verdict_good_out_first (hgood : m.state = .good) (hrun : m.run < 1) :
    verdict false m = { m with run := m.run + 1 } := by
  have h : ¬ 2 ≤ m.run + 1 := by omega
  simp only [verdict, hgood, if_neg h]

theorem verdict_good_out_again (hgood : m.state = .good) (hrun : 1 ≤ m.run) :
    verdict false m = { m with state := .bad, run := 0 } := by
  have h : 2 ≤ m.run + 1 := by omega
  simp only [verdict, hgood, if_pos h]

/-- A port that is ONLINE and not GOOD is CHECKING or BAD; the table treats the two alike. -/
theorem checking_or_bad (husable : m.state ≠ .unusable) (hgood : m.state ≠ .good) :
    m.state = .checking ∨ m.state = .bad := by
  cases h : m.state <;> simp_all

theorem verdict_test_in_short (h : m.state = .checking ∨ m.state = .bad) (hrun : m.run < 9) :
    verdict true m = { m with run := m.run + 1 } := by
  have h10 : ¬ 10 ≤ m.run + 1 := by omega
  rcases h with h | h <;> simp only [verdict, h, if_neg h10]

theorem verdict_test_in_tenth (h : m.state = .checking ∨ m.state = .bad) (hrun : 9 ≤ m.run) :
    verdict true m = { m with state := .good, run := 0 } := by
  have h10 : 10 ≤ m.run + 1 := by omega
  rcases h with h | h <;> simp only [verdict, h, if_pos h10]

theorem verdict_test_out (h : m.state = .checking ∨ m.state = .bad) : verdict false m = { m with run := 0 } := by
  rcases h with h | h <;> simp only [verdict, h]

end

theorem inTolerance_iff (count : Nat) : inTolerance count = true ↔ 2456372 ≤ count ∧ count ≤ 2458828 := by
  simp [inTolerance]

/-! ## The completed interval (R27, R32, R34) -/

/-- A monitor with a completed interval's count recorded and the next interval begun, before the verdict (R27). -/
def recorded (count : Nat) (m : Monitor) : Monitor := { m with last := count, interval := .running }

/-- A port's monitor after an interval has completed: its count, which stops at 4,194,303, recorded and judged (R27). -/
def judgedMonitor (p : Port) (ticks : Nat) (s : State) : Monitor :=
  verdict (inTolerance (min ticks 4194303)) (recorded (min ticks 4194303) (s.clock.monitors.get p))

/-- The judged monitor is the one the model's command writes. -/
theorem judgedMonitor_eq (p : Port) (ticks : Nat) (s : State) :
    verdict (inTolerance (min ticks 4194303))
        { s.clock.monitors.get p with last := min ticks 4194303, interval := .running }
      = judgedMonitor p ticks s := rfl

section
variable {p : Port} {ticks : Nat} {s : State}

/-- INTERVAL_COMPLETE where an interval is in progress (R27). -/
theorem exec_intervalComplete_of_running (hrstn : s.rstn = true) (honline : online s p = true)
    (hrunning : (s.clock.monitors.get p).interval = .running) :
    exec (.intervalComplete p ticks) s = .next (completeInterval p ticks s) := by
  have hexec : exec (.intervalComplete p ticks) s = whileRunning s (onlyIf (measuring s p) (completeInterval p ticks)) :=
    rfl
  have hmeasuring : measuring s p = true := by simp [measuring, honline, hrunning]
  rw [hexec, whileRunning, if_pos hrstn, onlyIf, if_pos hmeasuring]

/-- Without a change of clock state the verdict is recorded and the conditions reported. -/
theorem completeInterval_of_kept (hkept : (judgedMonitor p ticks s).state = (s.clock.monitors.get p).state) :
    completeInterval p ticks s = settle (setMonitor p (judgedMonitor p ticks s) s) := by
  have hreject : ((s.clock.monitors.get p).state == .good && (s.clock.monitors.get p).state == .bad) = false := by
    cases (s.clock.monitors.get p).state <;> rfl
  simp only [completeInterval, judgedMonitor_eq]
  simp only [hreject, hkept, bne_self_eq_false, Bool.false_eq_true, if_false]

/-- A change of clock state other than from GOOD to BAD re-evaluates the selection. -/
theorem completeInterval_of_moved
    (hmoved : (judgedMonitor p ticks s).state ≠ (s.clock.monitors.get p).state)
    (hreject : (judgedMonitor p ticks s).state ≠ .bad ∨ (s.clock.monitors.get p).state ≠ .good) :
    completeInterval p ticks s = settle (reselect (setMonitor p (judgedMonitor p ticks s) s)) := by
  have hno : ((s.clock.monitors.get p).state == .good && (judgedMonitor p ticks s).state == .bad) = false := by
    rcases hreject with h | h <;> simp [h]
  simp only [completeInterval, judgedMonitor_eq]
  simp only [hno, Bool.false_eq_true, if_false, bne_iff_ne, if_pos hmoved]

/-- The change from GOOD to BAD raises CLOCK_REJECT too (R34). -/
theorem completeInterval_of_rejected (hgood : (s.clock.monitors.get p).state = .good)
    (hbad : (judgedMonitor p ticks s).state = .bad) :
    completeInterval p ticks s
      = settle (reselect (raiseAll .clockReject (setMonitor p (judgedMonitor p ticks s) s))) := by
  have hmoved : (ClockState.bad != .good) = true := rfl
  simp only [completeInterval, judgedMonitor_eq]
  simp only [hgood, hbad, hmoved, beq_self_eq_true, Bool.and_self, if_true]

/-- CLOCK_REJECT is the fault block's matter: the clock is re-evaluated as after any change of clock state. -/
theorem completeInterval_clock_of_moved
    (hmoved : (judgedMonitor p ticks s).state ≠ (s.clock.monitors.get p).state) :
    (completeInterval p ticks s).clock = (reselect (setMonitor p (judgedMonitor p ticks s) s)).clock := by
  by_cases h : (judgedMonitor p ticks s).state = .bad ∧ (s.clock.monitors.get p).state = .good
  · obtain ⟨hbad, hgood⟩ := h
    rw [completeInterval_of_rejected hgood hbad, settle_clock]
    rfl
  · rw [completeInterval_of_moved hmoved (not_and_or.mp h), settle_clock]

/-- The interval writes one monitor, whatever it does to the selection. -/
theorem completeInterval_monitors :
    (completeInterval p ticks s).clock.monitors = s.clock.monitors.set p (judgedMonitor p ticks s) := by
  by_cases h : (judgedMonitor p ticks s).state = (s.clock.monitors.get p).state
  · rw [completeInterval_of_kept h, settle_clock]
    rfl
  · rw [completeInterval_clock_of_moved h]
    rfl

/-- No interval but one that takes its port from GOOD to BAD raises an event. -/
theorem completeInterval_reports_conditions
    (hreject : (judgedMonitor p ticks s).state ≠ .bad ∨ (s.clock.monitors.get p).state ≠ .good) :
    OnlyConditionsReported s (completeInterval p ticks s) := by
  by_cases h : (judgedMonitor p ticks s).state = (s.clock.monitors.get p).state
  · rw [completeInterval_of_kept h]
    exact onlyConditionsReported_settle rfl
  · rw [completeInterval_of_moved h hreject]
    exact onlyConditionsReported_settle rfl

theorem completeInterval_reports_reject (hgood : (s.clock.monitors.get p).state = .good)
    (hbad : (judgedMonitor p ticks s).state = .bad) :
    EventReported (fun _ => True) .clockReject s (completeInterval p ticks s) := by
  rw [completeInterval_of_rejected hgood hbad]
  exact eventReported_settle (scope := fun _ => true)
    (r := setMonitor p (judgedMonitor p ticks s) s) (fun _ => by simp) rfl rfl rfl

/-- A change of clock state re-evaluates the selection (R32). -/
theorem completeInterval_reselects
    (hmoved : (judgedMonitor p ticks s).state ≠ (s.clock.monitors.get p).state) :
    (completeInterval p ticks s).clock.source
        = firstGood s.settings.clockPriority (completeInterval p ticks s).clock
      ∧ ((completeInterval p ticks s).clock.switched = true
          ↔ s.clock.switched = true ∨ (completeInterval p ticks s).clock.source ≠ s.clock.source) := by
  rw [completeInterval_clock_of_moved hmoved]
  exact ⟨reselect_source _, reselect_switched _⟩

theorem completeInterval_keeps_selection
    (hkept : (judgedMonitor p ticks s).state = (s.clock.monitors.get p).state) :
    (completeInterval p ticks s).clock.source = s.clock.source
      ∧ (completeInterval p ticks s).clock.switched = s.clock.switched := by
  rw [completeInterval_of_kept hkept, settle_clock]
  exact ⟨rfl, rfl⟩

end

/-! ## The statement -/

/-- Settles O17: the port's monitor becomes the judged one, whose rows are those of `verdict`; the reports and the
selection depend on the judged state alone. -/
theorem completedIntervalMovesTheClockState : Obligations.CompletedIntervalMovesTheClockState := by
  intro p ticks s hrstn honline m count ok hrunning husable
  have hcount : min ticks 4194303 = count := Nat.min_def ..
  have hin (h : ok) : inTolerance count = true := (inTolerance_iff count).mpr h
  have hout (h : ¬ ok) : inTolerance count = false := Bool.eq_false_iff.mpr fun hc => h ((inTolerance_iff count).mp hc)
  have htest (h : m.state ≠ .good) : m.state = .checking ∨ m.state = .bad := checking_or_bad husable h
  refine ⟨_, exec_intervalComplete_of_running hrstn honline hrunning, ?_, fun q hq => ?_, completeInterval_frame p ticks s⟩
  · intro n
    have hn : n = judgedMonitor p ticks s := by
      simp only [n, completeInterval_monitors, PerPort.get_set_self]
    have hrow : n = verdict (inTolerance count) (recorded count m) := by rw [hn, judgedMonitor, hcount]
    obtain ⟨hlast, href, hinterval⟩ := verdict_keeps (inTolerance count) (recorded count m)
    refine ⟨hrow ▸ hlast, hrow ▸ href, hrow ▸ hinterval, ?_, ?_, ?_, ?_, ?_, ?_, ?_, ?_, ?_⟩
    · intro hgood h
      rw [hrow, hin h, verdict_good_in (m := recorded count m) hgood]
      exact ⟨hgood, rfl⟩
    · intro hgood h hrun
      rw [hrow, hout h, verdict_good_out_first (m := recorded count m) hgood hrun]
      exact ⟨hgood, rfl⟩
    · intro hgood h hrun
      have hbad : n = { recorded count m with state := .bad, run := 0 } := by
        rw [hrow, hout h, verdict_good_out_again (m := recorded count m) hgood hrun]
      exact ⟨congrArg Monitor.state hbad, congrArg Monitor.run hbad,
        completeInterval_reports_reject hgood (hn ▸ congrArg Monitor.state hbad)⟩
    · intro hgood h hrun
      rw [hrow, hin h, verdict_test_in_short (m := recorded count m) (htest hgood) hrun]
      exact ⟨rfl, rfl⟩
    · intro hgood h hrun
      rw [hrow, hin h, verdict_test_in_tenth (m := recorded count m) (htest hgood) hrun]
      exact ⟨rfl, rfl⟩
    · intro hgood h
      rw [hrow, hout h, verdict_test_out (m := recorded count m) (htest hgood)]
      exact ⟨rfl, rfl⟩
    · exact fun hreject => completeInterval_reports_conditions (hn ▸ hreject)
    · exact fun hkept => completeInterval_keeps_selection (hn ▸ hkept)
    · exact fun hmoved => completeInterval_reselects (hn ▸ hmoved)
  · rw [completeInterval_monitors, PerPort.get_set_ne _ _ hq]

end Sys2Proof.Safety
end

section
/-! SUPPORT and PROOFS. A tracking record recomputed inside its range (R93), and the statement about a rebase (R96). -/
namespace Sys2Proof.Safety

open Sys2Proof.Machine

/-- A number already in the range is not moved. -/
theorem clampTo_of_mem {lo hi n : Int} (hlo : lo ≤ n) (hhi : n ≤ hi) : clampTo lo hi n = n := by
  rw [clampTo, min_eq_left hhi, max_eq_right hlo]

/-- Where T + A − E is a gain D of the range, a recomputed record takes D and is not limited (R93). -/
theorem recompute_of_mem {E D : Int} {t : Track} (hraw : t.trim + t.anchor - E = D) (hlo : -60 ≤ D) (hhi : D ≤ 36) :
    recompute E t = { t with gain := D, limited := false } := by
  have hinside : ¬ (D < -60 ∨ 36 < D) := not_or.mpr ⟨not_lt.mpr hlo, not_lt.mpr hhi⟩
  simp only [recompute, hraw, clampTo_of_mem hlo hhi, decide_eq_false hinside]

/-- Settles O29: with the present D as T and the present E as A, T + A − E is D again, which is in its range. -/
theorem rebaseKeepsTheDigitalGain : Obligations.RebaseKeepsTheDigitalGain := by
  intro eff t hlo hhi
  have hraw : t.gain + eff - eff = t.gain := add_sub_cancel_right t.gain eff
  exact recompute_of_mem (t := { t with trim := t.gain, anchor := eff }) hraw hlo hhi

end Sys2Proof.Safety
end

section
/-! SUPPORT. Which operations a rule of every state has to be proved for: those that reach a block the rule looks at. The
others keep it by their frames (Laws/Frames.lean), so each rule names only what can break it. -/
namespace Sys2Proof.Safety

open Sys2Proof.Machine

/-! A theorem's proof is checked on a thread of its own. Below, one theorem in twelve is checked in line instead, so that
only a few threads wait at a time. A table's entry is written with the index's own bound (`v[i]'i.2`), so that no search
for the bound runs at each of them. -/
/-! ## Touching a block -/

/-- An operation that may change the blocks `k` can reach a property that looks at the blocks `l`. -/
abbrev Touches (l k : List Block) : Prop := ∃ b ∈ l, b ∈ k

set_option Elab.async false in
/-- An operation keeps a property if it does so where it reaches what the property looks at. -/
theorem Reads.kept_of_touched {l k : List Block} {I : State → Prop} (hI : Reads l I) {s t : State}
    (hframe : SameExcept k s t) (hs : I s) (h : Touches l k → I t) : I t := by
  by_cases ht : Touches l k
  · exact h ht
  · exact hI s t (fun b hb => hframe b fun hk => ht ⟨b, hb, hk⟩) hs

/-! ## Handlers -/

/-- The blocks that each kind's handler may change. -/
def handlerBlocks : Kind → List Block
  | .claimChannels => [.owners, .tracks, .journal, .faults]
  | .releaseChannels | .claimOutputs | .releaseOutputs => [.owners, .journal]
  | .setGain | .setPad => [.channels]
  | .setPhantom => [.channels, .journal]
  | .readMeters => [.meters]
  | .setTrim | .setTracking => [.tracks, .faults]
  | .phantomReset => bankBlocks
  | .writeSetting => settingBlocks
  | .setOutput => [.outputs, .journal, .faults]
  | .talk => [.talkMask]
  | .ackCall => [.calls]
  | .clearFaults => [.faults]
  | .keepalive | .readOwners | .readTracking | .readPhantom | .readChanges | .readChannels | .readSettings | .readClock
  | .readOutputs | .readFaults => []

theorem handlerOf_frame_of_kind (before k p m s) :
    SameExcept (handlerBlocks k) s (handlerOf before k p m s).state := by
  cases k
  case claimChannels => exact answerClaimChannels_frame p m s
  case releaseChannels => exact answerReleaseChannels_frame p m s
  case claimOutputs => exact answerClaimOutputs_frame p m s
  case releaseOutputs => exact answerReleaseOutputs_frame p m s
  case setGain => exact answerSetGain_frame p m s
  case setPad => exact answerSetPad_frame p m s
  case setPhantom => exact answerSetPhantom_frame p m s
  case readMeters => exact answerReadMeters_frame p m s
  case setTrim => exact answerSetTrim_frame p m s
  case setTracking => exact answerSetTracking_frame p m s
  case phantomReset => exact answerPhantomReset_frame p m s
  case writeSetting => exact answerWriteSetting_frame p m s
  case setOutput => exact answerSetOutput_frame p m s
  case talk => exact answerTalk_frame p m s
  case ackCall => exact answerAckCall_frame before p m s
  case clearFaults => exact answerClearFaults_frame p m s
  case keepalive => exact .refl _ _
  case readOwners => exact same_of_state (answerReadOwners_state p m s)
  case readTracking => exact same_of_state (answerReadTracking_state p m s)
  case readPhantom => exact same_of_state (answerReadPhantom_state p m s)
  case readChanges => exact same_of_state (answerReadChanges_state p m s)
  case readChannels => exact same_of_state (answerReadChannels_state p m s)
  case readSettings => exact same_of_state (answerReadSettings_state p m s)
  case readClock => exact same_of_state (answerReadClock_state p m s)
  case readOutputs => exact same_of_state (answerReadOutputs_state p m s)
  case readFaults => exact same_of_state (answerReadFaults_state p m s)

/-! ## Room in a reply queue -/

/-- A port's reply queue has room for one reply more (R50). -/
def HasRoom (q : Port) (s : State) : Prop := (s.lanes.get q).queue.length < 8

theorem hasRoom_reads (q : Port) : Reads [.lanes] (HasRoom q) := by
  intro s t h hs
  have hl : t.lanes = s.lanes := h .lanes (by decide)
  rwa [HasRoom, hl]

/-- Going OFFLINE empties a queue and leaves the others. -/
theorem goOffline_keeps_room {old : State} {p q : Port} {s : State} (h : HasRoom q s) : HasRoom q (goOffline old p s) := by
  have hl : (goOffline old p s).lanes = s.lanes.set p { asm := none, queue := [], sent := 0 } := rfl
  rw [HasRoom, hl, PerPort.get_set]
  split
  · decide
  · exact h

theorem leaveCarrying_keeps_room {p x r} {q : Port} {s : State} (h : HasRoom q s) : HasRoom q (leaveCarrying p x r s) := by
  have h1 : HasRoom q (setPath p x r s) := h
  unfold leaveCarrying
  dsimp only
  split
  · split
    · exact (hasRoom_reads q).kept (moveReference_frame _ _ _) h1
    · exact h1
  · exact goOffline_keeps_room h1

theorem writePathFlag_keeps_room {a b p x} {q : Port} {s : State} (h : HasRoom q s) :
    HasRoom q (writePathFlag a b p x s) := by
  unfold writePathFlag
  split
  · unfold disablePath
    dsimp only
    split
    · exact leaveCarrying_keeps_room h
    · exact h
  · exact (hasRoom_reads q).kept (enablePath_frame _ _ _) h
  · exact h

theorem applyItem_keeps_room {i old} {q : Port} {s : State} (h : HasRoom q s) : HasRoom q (applyItem i old s) := by
  cases i
  case clockPriority => exact h
  case pathEnable =>
    exact (hasRoom_reads q).kept (settle_frame _) <| foldl_keeps
      (fun _ _ hs => foldl_keeps (fun _ _ hs => writePathFlag_keeps_room hs) _ _ hs) _ _ h
  case key => exact (hasRoom_reads q).kept (applyKeyConfig_frame _ _ _) h
  case timeout => exact (hasRoom_reads q).kept (holdTimeout_frame _ _ _) h
  all_goals exact h

/-- No message's own effect fills a reply queue. -/
theorem handlerOf_keeps_room {before k p m} {q : Port} {s : State} (h : HasRoom q s) :
    HasRoom q (handlerOf before k p m s).state := by
  refine (hasRoom_reads q).kept_of_touched (handlerOf_frame_of_kind before k p m s) h fun htouch => ?_
  cases k
  case writeSetting =>
    unfold handlerOf answerWriteSetting
    dsimp only
    split
    · exact h
    · exact judged_state h (applyItem_keeps_room h)
  all_goals exact absurd htouch (by decide)

/-! ## The rule for every step -/

/-- A property is kept by every operation if it is kept by those that reach a block it looks at. -/
theorem keptByOperations_of_touched {l : List Block} {I : State → Prop} (hI : Reads l I)
    (reset : ∀ straps sig q, I (((State.reset.withUnitAddr straps).withSignal sig).withPending q))
    (handler : ∀ before k p m s, Touches l (handlerBlocks k) → online s p = true → I s →
      I (handlerOf before k p m s).state)
    (queue : Touches l [.pending] → ∀ v s, I s → I (s.withPending v) := by exact fun h => absurd h (by decide))
    (rstnLow : Touches l [.rstn, .sent, .outputs, .latch] → ∀ s t, execRstnLow s = .next t → I s → I t := by
      exact fun h => absurd h (by decide))
    (signal : Touches l [.signal] → ∀ v s, I s → I (s.withSignal v) := by exact fun h => absurd h (by decide))
    (latch : Touches l [.latch] → ∀ v s, I s → I (s.withLatch v) := by exact fun h => absurd h (by decide))
    (openBoundary : Touches l [.clock] → ∀ s, I s → I (openBoundary s) := by exact fun h => absurd h (by decide))
    (arriveFrame : Touches l [.paths, .merges, .clock, .faults] → ∀ p x f s, I s → I (arriveFrame p x f s) := by
      exact fun h => absurd h (by decide))
    (loseSignal : Touches l [.signal, .paths, .clock] → ∀ p x s, I s → I (loseSignal p x s) := by
      exact fun h => absurd h (by decide))
    (returnSignal : Touches l [.signal, .paths, .clock] → ∀ p x s, I s → I (returnSignal p x s) := by
      exact fun h => absurd h (by decide))
    (matchSync : Touches l [.paths] → ∀ p x bits s, I s → I (matchSync p x bits s) := by
      exact fun h => absurd h (by decide))
    (examineNext : Touches l [.paths] → ∀ p x next s, I s → I (examineNext p x next s) := by
      exact fun h => absurd h (by decide))
    (completeInterval : Touches l [.clock, .faults] → ∀ p n s, measuring s p = true → I s →
      I (completeInterval p n s) := by exact fun h => absurd h (by decide))
    (scorePath : Touches l scoreBlocks → ∀ p x s, I s → I (scorePath p x s) := by exact fun h => absurd h (by decide))
    (deliverAudio : Touches l [.merges, .latch, .outputs, .faults] → ∀ p c s, online s p = true →
      (s.merges.get p).slots[0] = some c → (s.merges.get p).hunting = false → I s →
      I (settle (followOutputs s (setHandoff p (deliveredAudio c) (setMerge p (delivered c (s.merges.get p)) s)))) := by
      exact fun h => absurd h (by decide))
    (missFrame : Touches l [.latch, .merges, .faults, .lanes] → ∀ p s, online s p = true → I s →
      I (missFrame p s) := by exact fun h => absurd h (by decide))
    (dropPartial : Touches l [.lanes, .faults] → ∀ p s, I s → I (dropPartial p s) := by
      exact fun h => absurd h (by decide))
    (setAssembly : Touches l [.lanes] → ∀ p a s, online s p = true → I s → I (setAssembly p a s) := by
      exact fun h => absurd h (by decide))
    (raiseAt : Touches l [.faults] → ∀ k p s, I s → I (raiseAt k p s) := by exact fun h => absurd h (by decide))
    (heard : Touches l [.presence, .faults] → ∀ p s, I s → I (heard p s) := by exact fun h => absurd h (by decide))
    (enqueue : Touches l [.lanes] → ∀ p kind tag a, HasRoom p a.state → I a.state → I (enqueue p kind tag a) := by
      exact fun h => absurd h (by decide))
    (countPresence : Touches l expiryBlocks → ∀ p s, I s → I (countPresence p s) := by
      exact fun h => absurd h (by decide))
    (captureFrame : Touches l (.meters :: stepBlocks) → ∀ c s, I s → I (captureFrame c s) := by
      exact fun h => absurd h (by decide))
    (countMute : Touches l [.channels, .journal] → ∀ c s, I s → I (countMute c s) := by
      exact fun h => absurd h (by decide))
    (readingWork : Touches l (.latch :: bankBlocks) → ∀ s, I s → I (readingWork s) := by
      exact fun h => absurd h (by decide))
    (advanceBank : Touches l bankBlocks → ∀ b s, I s → I (advanceBank b s) := by exact fun h => absurd h (by decide))
    (countHoldoff : Touches l [.outputs, .faults] → ∀ o s, I s → I (countHoldoff o s) := by
      exact fun h => absurd h (by decide))
    (keyWork : Touches l [.keys, .calls] → ∀ k s, I s → I (keyWork k s) := by exact fun h => absurd h (by decide))
    (buildFrames : Touches l [.meters, .lanes, .sent, .frameNo] → ∀ s, I s → I (buildFrames s) := by
      exact fun h => absurd h (by decide))
    (countStretch : Touches l [.faults] → ∀ l s, I s → I (countStretch l s) := by exact fun h => absurd h (by decide))
    (endBoundary : Touches l [.outputs, .tracks, .phantom, .latch] → ∀ s, I s → I (endBoundary s) := by
      exact fun h => absurd h (by decide)) :
    KeptByOperations I where
  queue v s hs := hI.kept_of_touched (k := [.pending]) (by intro b hb; cases b <;> first | rfl | simp at hb) hs
    fun ht => queue ht v s hs
  reset := reset
  rstnLow s t he hs := hI.kept_of_touched (k := [.rstn, .sent, .outputs, .latch])
    (by intro b hb; cases he; cases b <;> first | rfl | simp at hb) hs fun ht => rstnLow ht s t he hs
  signal v s hs := hI.kept_of_touched (withSignal_frame v s) hs fun ht => signal ht v s hs
  latch v s hs := hI.kept_of_touched (withLatch_frame v s) hs fun ht => latch ht v s hs
  openBoundary s hs := hI.kept_of_touched (openBoundary_frame s) hs fun ht => openBoundary ht s hs
  arriveFrame p x f s hs := hI.kept_of_touched (arriveFrame_frame p x f s) hs fun ht => arriveFrame ht p x f s hs
  loseSignal p x s hs := hI.kept_of_touched (loseSignal_frame p x s) hs fun ht => loseSignal ht p x s hs
  returnSignal p x s hs := hI.kept_of_touched (returnSignal_frame p x s) hs fun ht => returnSignal ht p x s hs
  matchSync p x bits s hs := hI.kept_of_touched (matchSync_frame p x bits s) hs fun ht => matchSync ht p x bits s hs
  examineNext p x next s hs :=
    hI.kept_of_touched (examineNext_frame p x next s) hs fun ht => examineNext ht p x next s hs
  completeInterval p n s hm hs :=
    hI.kept_of_touched (completeInterval_frame p n s) hs fun ht => completeInterval ht p n s hm hs
  scorePath p x s hs := hI.kept_of_touched (scorePath_frame p x s) hs fun ht => scorePath ht p x s hs
  deliverAudio p c s ho hc hh hs := by
    have hframe : SameExcept [.merges, .latch, .outputs, .faults] s
        (settle (followOutputs s (setHandoff p (deliveredAudio c) (setMerge p (delivered c (s.merges.get p)) s)))) :=
      SameExcept.seq (l := [.merges, .latch, .outputs])
        (SameExcept.seq (l := [.merges, .latch]) ((setMerge_frame _ _ _).seq (setHandoff_frame _ _ _))
          (followOutputs_frame _ _)) (settle_frame _)
    exact hI.kept_of_touched hframe hs fun ht => deliverAudio ht p c s ho hc hh hs
  missFrame p s ho hs := hI.kept_of_touched (missFrame_frame p s) hs fun ht => missFrame ht p s ho hs
  dropPartial p s hs := hI.kept_of_touched (dropPartial_frame p s) hs fun ht => dropPartial ht p s hs
  setAssembly p a s ho hs := hI.kept_of_touched (setAssembly_frame p a s) hs fun ht => setAssembly ht p a s ho hs
  raiseAt k p s hs := hI.kept_of_touched (raiseAt_frame k p s) hs fun ht => raiseAt ht k p s hs
  heard p s hs := hI.kept_of_touched (heard_frame p s) hs fun ht => heard ht p s hs
  deliver k p kind m s ho hs := by
    have h1 : I (Machine.heard p s) := hI.kept_of_touched (heard_frame p s) hs fun ht => heard ht p s hs
    unfold Machine.deliver
    dsimp only
    split
    · exact hI.kept_of_touched (raiseAt_frame _ _ _) h1 fun ht => raiseAt ht _ _ _ h1
    · rename_i hroom
      have ho1 : online (Machine.heard p s) p = true := ho
      have h2 : I (handlerOf s k p m (Machine.heard p s)).state :=
        hI.kept_of_touched (handlerOf_frame_of_kind s k p m _) h1 fun ht => handler s k p m _ ht ho1 h1
      have hroom2 : HasRoom p (handlerOf s k p m (Machine.heard p s)).state := handlerOf_keeps_room (Nat.lt_of_not_le hroom)
      exact hI.kept_of_touched (enqueue_frame _ _ _ _) h2 fun ht => enqueue ht _ _ _ _ hroom2 h2
  countPresence p s hs := hI.kept_of_touched (countPresence_frame p s) hs fun ht => countPresence ht p s hs
  captureFrame c s hs := hI.kept_of_touched (captureFrame_frame c s) hs fun ht => captureFrame ht c s hs
  countMute c s hs := hI.kept_of_touched (countMute_frame c s) hs fun ht => countMute ht c s hs
  readingWork s hs := hI.kept_of_touched (readingWork_frame s) hs fun ht => readingWork ht s hs
  advanceBank b s hs := hI.kept_of_touched (advanceBank_frame b s) hs fun ht => advanceBank ht b s hs
  countHoldoff o s hs := hI.kept_of_touched (countHoldoff_frame o s) hs fun ht => countHoldoff ht o s hs
  keyWork k s hs := hI.kept_of_touched (keyWork_frame k s) hs fun ht => keyWork ht k s hs
  buildFrames s hs := hI.kept_of_touched (buildFrames_frame s) hs fun ht => buildFrames ht s hs
  countStretch l s hs := hI.kept_of_touched (countStretch_frame l s) hs fun ht => countStretch ht l s hs
  endBoundary s hs := hI.kept_of_touched (endBoundary_frame s) hs fun ht => endBoundary ht s hs

end Sys2Proof.Safety
end

section
/-! SUPPORT. What the operations that every chapter uses leave: a report of conditions, a port's being heard, an entry, a
reply, a message answered, a unit of boundary work taken by itself. -/
namespace Sys2Proof.Safety

open Sys2Proof.Machine

/-! ## The fields that an operation leaves as they are -/

/-- A report of conditions changes the fault block alone. -/
@[simp] theorem settle_fields (s : State) :
    (settle s).rstn = s.rstn ∧ (settle s).unitAddr = s.unitAddr ∧ (settle s).signal = s.signal
    ∧ (settle s).paths = s.paths ∧ (settle s).frameNo = s.frameNo ∧ (settle s).lanes = s.lanes
    ∧ (settle s).presence = s.presence ∧ (settle s).owners = s.owners ∧ (settle s).channels = s.channels
    ∧ (settle s).meters = s.meters ∧ (settle s).tracks = s.tracks ∧ (settle s).phantom = s.phantom
    ∧ (settle s).journal = s.journal ∧ (settle s).settings = s.settings ∧ (settle s).outputs = s.outputs
    ∧ (settle s).keys = s.keys ∧ (settle s).calls = s.calls ∧ (settle s).talkMask = s.talkMask
    ∧ (settle s).sent = s.sent ∧ (settle s).latch = s.latch ∧ (settle s).pending = s.pending := by
  refine ⟨?_, ?_, ?_, ?_, ?_, ?_, ?_, ?_, ?_, ?_, ?_, ?_, ?_, ?_, ?_, ?_, ?_, ?_, ?_, ?_, ?_⟩ <;> rfl

/-- A port's being heard changes presence and the fault block alone. -/
@[simp] theorem heard_fields (p : Port) (s : State) :
    (heard p s).rstn = s.rstn ∧ (heard p s).unitAddr = s.unitAddr ∧ (heard p s).signal = s.signal
    ∧ (heard p s).paths = s.paths ∧ (heard p s).merges = s.merges ∧ (heard p s).clock = s.clock
    ∧ (heard p s).frameNo = s.frameNo ∧ (heard p s).lanes = s.lanes ∧ (heard p s).owners = s.owners
    ∧ (heard p s).channels = s.channels ∧ (heard p s).meters = s.meters ∧ (heard p s).tracks = s.tracks
    ∧ (heard p s).phantom = s.phantom ∧ (heard p s).journal = s.journal ∧ (heard p s).settings = s.settings
    ∧ (heard p s).outputs = s.outputs ∧ (heard p s).keys = s.keys ∧ (heard p s).calls = s.calls
    ∧ (heard p s).talkMask = s.talkMask ∧ (heard p s).sent = s.sent ∧ (heard p s).latch = s.latch
    ∧ (heard p s).pending = s.pending := by
  refine ⟨?_, ?_, ?_, ?_, ?_, ?_, ?_, ?_, ?_, ?_, ?_, ?_, ?_, ?_, ?_, ?_, ?_, ?_, ?_, ?_, ?_, ?_⟩ <;> rfl

/-- An entry changes the journal alone. -/
@[simp] theorem appendEntry_fields (kind subject author value) (s : State) :
    (appendEntry kind subject author value s).rstn = s.rstn
    ∧ (appendEntry kind subject author value s).unitAddr = s.unitAddr
    ∧ (appendEntry kind subject author value s).signal = s.signal
    ∧ (appendEntry kind subject author value s).paths = s.paths
    ∧ (appendEntry kind subject author value s).merges = s.merges
    ∧ (appendEntry kind subject author value s).clock = s.clock
    ∧ (appendEntry kind subject author value s).frameNo = s.frameNo
    ∧ (appendEntry kind subject author value s).lanes = s.lanes
    ∧ (appendEntry kind subject author value s).presence = s.presence
    ∧ (appendEntry kind subject author value s).owners = s.owners
    ∧ (appendEntry kind subject author value s).channels = s.channels
    ∧ (appendEntry kind subject author value s).meters = s.meters
    ∧ (appendEntry kind subject author value s).tracks = s.tracks
    ∧ (appendEntry kind subject author value s).phantom = s.phantom
    ∧ (appendEntry kind subject author value s).settings = s.settings
    ∧ (appendEntry kind subject author value s).outputs = s.outputs
    ∧ (appendEntry kind subject author value s).keys = s.keys
    ∧ (appendEntry kind subject author value s).calls = s.calls
    ∧ (appendEntry kind subject author value s).talkMask = s.talkMask
    ∧ (appendEntry kind subject author value s).faults = s.faults
    ∧ (appendEntry kind subject author value s).sent = s.sent
    ∧ (appendEntry kind subject author value s).latch = s.latch
    ∧ (appendEntry kind subject author value s).pending = s.pending := by
  refine ⟨?_, ?_, ?_, ?_, ?_, ?_, ?_, ?_, ?_, ?_, ?_, ?_, ?_, ?_, ?_, ?_, ?_, ?_, ?_, ?_, ?_, ?_, ?_⟩ <;> rfl

set_option Elab.async false in
@[simp] theorem heard_presence (p : Port) (s : State) :
    (heard p s).presence = s.presence.set p { present := true, running := true, elapsed := 0 } := rfl

@[simp] theorem online_heard (p q : Port) (s : State) : online (heard p s) q = online s q := rfl

@[simp] theorem online_settle (s : State) (q : Port) : online (settle s) q = online s q := rfl

@[simp] theorem available_heard (p : Port) (s : State) (src : Option Source) :
    available (heard p s) src = available s src := by
  cases src <;> rfl

@[simp] theorem available_settle (s : State) (src : Option Source) : available (settle s) src = available s src := by
  cases src <;> rfl

/-! ## A message answered (R45 to R50) -/

/-- The state with one reply appended to a port's queue (R49). -/
def replied (p : Port) (r : Reply) (s : State) : State :=
  setLane p { s.lanes.get p with queue := (s.lanes.get p).queue ++ [r] } s

/-- A reply changes the lanes alone. -/
@[simp] theorem replied_fields (p : Port) (r : Reply) (s : State) :
    (replied p r s).rstn = s.rstn ∧ (replied p r s).unitAddr = s.unitAddr ∧ (replied p r s).signal = s.signal
    ∧ (replied p r s).paths = s.paths ∧ (replied p r s).merges = s.merges ∧ (replied p r s).clock = s.clock
    ∧ (replied p r s).frameNo = s.frameNo ∧ (replied p r s).presence = s.presence
    ∧ (replied p r s).owners = s.owners ∧ (replied p r s).channels = s.channels ∧ (replied p r s).meters = s.meters
    ∧ (replied p r s).tracks = s.tracks ∧ (replied p r s).phantom = s.phantom ∧ (replied p r s).journal = s.journal
    ∧ (replied p r s).settings = s.settings ∧ (replied p r s).outputs = s.outputs ∧ (replied p r s).keys = s.keys
    ∧ (replied p r s).calls = s.calls ∧ (replied p r s).talkMask = s.talkMask ∧ (replied p r s).faults = s.faults
    ∧ (replied p r s).sent = s.sent ∧ (replied p r s).latch = s.latch ∧ (replied p r s).pending = s.pending := by
  refine ⟨?_, ?_, ?_, ?_, ?_, ?_, ?_, ?_, ?_, ?_, ?_, ?_, ?_, ?_, ?_, ?_, ?_, ?_, ?_, ?_, ?_, ?_, ?_⟩ <;> rfl

@[simp] theorem replied_lanes (p : Port) (r : Reply) (s : State) :
    (replied p r s).lanes = s.lanes.set p { s.lanes.get p with queue := (s.lanes.get p).queue ++ [r] } := rfl

theorem replied_frame (p r s) : SameExcept [.lanes] s (replied p r s) := setLane_frame _ _ _

/-- A port that is still ONLINE after its message's execution gets the reply. -/
theorem enqueue_of_online {p : Port} {kind tag} {a : Answer} (h : online a.state p = true) :
    enqueue p kind tag a = replied p ⟨kind, tag, a.code, a.body⟩ a.state := if_pos h

/-- A reply to a port that its message's execution took OFFLINE is lost (R49). -/
theorem enqueue_of_offline {p : Port} {kind tag} {a : Answer} (h : online a.state p = false) :
    enqueue p kind tag a = a.state := if_neg (by simp [h])

theorem whileRunning_of_high {s : State} (f : State → State) (h : s.rstn = true) : whileRunning s f = .next (f s) := by
  rw [whileRunning, if_pos h]

theorem fromDesk_of_online {p : Port} {s : State} (f : State → State) (h : online s p = true) : fromDesk p f s = f s :=
  if_pos h

section
variable {p : Port} {kind : BitVec 6} {m : Msg} {handler : Port → Msg → State → Answer} {s : State}

set_option Elab.async false in
theorem deliver_of_room (h : (s.lanes.get p).queue.length < 8) :
    deliver p kind m handler s = enqueue p kind m.tag (handler p m (heard p s)) := if_neg (Nat.not_le.mpr h)

theorem deliver_of_full (h : 8 ≤ (s.lanes.get p).queue.length) :
    deliver p kind m handler s = raiseAt .replyOverrun p (heard p s) := if_pos h

/-- A message of a port that is ready for it is heard, executed and answered (R45). -/
theorem message_of_ready (hr : Ready p s) :
    whileRunning s (fromDesk p (deliver p kind m handler)) = .next (enqueue p kind m.tag (handler p m (heard p s))) := by
  obtain ⟨hrstn, honline, hroom⟩ := hr
  rw [whileRunning_of_high _ hrstn, fromDesk_of_online _ honline, deliver_of_room hroom]

/-- What an answered message leaves: the port heard, the reply queued, and beside the listed blocks nothing else. -/
theorem answered_replied {r : Reply} {changed : List Block} {u : State} (hframe : SameExcept changed (heard p s) u)
    (hlanes : .lanes ∉ changed) (hpresence : .presence ∉ changed) : Answered p r changed s (replied p r u) := by
  have hu : u.lanes = s.lanes := hframe .lanes hlanes
  refine ⟨hframe .presence hpresence, by rw [Replied, replied_lanes, hu], ?_⟩
  exact ((heard_frame p s).mono (by simp)).trans ((hframe.mono (by simp +contextual)).trans
    ((replied_frame p r u).mono (by simp)))

/-- An executed message whose handler leaves the paths, presence and the lanes alone is answered. -/
theorem exec_answered {c : Instr} {code : Code} {body : List Payload} {u : State} {changed : List Block} (hr : Ready p s)
    (hexec : exec c s = whileRunning s (fromDesk p (deliver p kind m handler)))
    (hanswer : handler p m (heard p s) = ⟨code, body, u⟩) (hframe : SameExcept changed (heard p s) u)
    (hpaths : .paths ∉ changed := by decide) (hlanes : .lanes ∉ changed := by decide)
    (hpresence : .presence ∉ changed := by decide) :
    exec c s = .next (replied p ⟨kind, m.tag, code, body⟩ u)
      ∧ Answered p ⟨kind, m.tag, code, body⟩ changed s (replied p ⟨kind, m.tag, code, body⟩ u) := by
  have honline : online u p = true := (online_of_paths (hframe .paths hpaths) p).trans hr.2.1
  refine ⟨?_, answered_replied hframe hlanes hpresence⟩
  rw [hexec, message_of_ready hr, hanswer, enqueue_of_online honline]

end

/-! ## Refusals (R46) -/

/-- A message refused with a code, or answered. -/
def answerUnless (refusal : Option Code) (s : State) (a : Answer) : Answer :=
  match refusal with
  | some code => refuse code s
  | none => a

@[simp] theorem answerUnless_none (s : State) (a : Answer) : answerUnless none s a = a := rfl

@[simp] theorem answerUnless_some (code : Code) (s : State) (a : Answer) : answerUnless (some code) s a = ⟨code, [], s⟩ :=
  rfl

/-- The code of the first test of a list that fails. -/
def firstFailing (tests : List (Bool × Code)) : Option Code := (tests.find? fun t => t.1).map fun t => t.2

@[simp] theorem firstFailing_nil : firstFailing [] = none := rfl

@[simp] theorem firstFailing_cons (failed : Bool) (code : Code) (tests : List (Bool × Code)) :
    firstFailing ((failed, code) :: tests) = if failed then some code else firstFailing tests := by
  cases failed <;> rfl

theorem judged_eq (tests : List (Bool × Code)) (s : State) (a : Answer) :
    judged tests s a = answerUnless (firstFailing tests) s a := by
  unfold judged firstFailing answerUnless
  cases tests.find? fun t => t.1 <;> rfl

/-! ## A unit of boundary work taken by itself -/

theorem openBoundary_eq (s : State) : openBoundary s = s.withClock (clockAtWork s) := by
  simp only [openBoundary, clockAtWork, List.isEmpty_iff]
  split <;> rfl

@[simp] theorem clockAtWork_source (s : State) : (clockAtWork s).source = s.clock.source := by
  unfold clockAtWork; split <;> rfl

set_option Elab.async false in
@[simp] theorem clockAtWork_monitors (s : State) : (clockAtWork s).monitors = s.clock.monitors := by
  unfold clockAtWork; split <;> rfl

theorem fresh_of_notTaken {w : Work} {s : State} (h : w ∉ s.latch.taken) : fresh w s = true := by
  simpa [fresh] using h

/-- A row of the table that is one unit of the boundary now falling: the unit's effect on its own input, and its mark. -/
theorem exec_unit {c : Instr} {w : Work} {happens : State → Bool} {latch : State → State} {s : State}
    (hexec : exec c s = whileRunning s (oneUnit w happens latch)) (hnot : NotYetTaken w s) (hhappens : happens s = true)
    (htaken : (latch (s.withClock (clockAtWork s))).latch.taken = s.latch.taken) :
    exec c s = .next (markTaken w (workEffect w (latch (s.withClock (clockAtWork s))))) := by
  obtain ⟨hrstn, hw⟩ := hnot
  have hcond : (fresh w s && happens s) = true := by rw [fresh_of_notTaken hw, hhappens]; rfl
  have hfresh : fresh w (latch (s.withClock (clockAtWork s))) = true := fresh_of_notTaken (by rwa [htaken])
  rw [hexec, whileRunning_of_high _ hrstn, oneUnit, onlyIf, if_pos hcond, openBoundary_eq, takeWork, if_pos hfresh]

@[simp] theorem markTaken_latch (w : Work) (s : State) :
    (markTaken w s).latch = { s.latch with taken := w :: s.latch.taken } := rfl

/-- A mark changes the latch alone. -/
@[simp] theorem markTaken_fields (w : Work) (s : State) :
    (markTaken w s).rstn = s.rstn ∧ (markTaken w s).unitAddr = s.unitAddr ∧ (markTaken w s).signal = s.signal
    ∧ (markTaken w s).paths = s.paths ∧ (markTaken w s).merges = s.merges ∧ (markTaken w s).clock = s.clock
    ∧ (markTaken w s).frameNo = s.frameNo ∧ (markTaken w s).lanes = s.lanes ∧ (markTaken w s).presence = s.presence
    ∧ (markTaken w s).owners = s.owners ∧ (markTaken w s).channels = s.channels ∧ (markTaken w s).meters = s.meters
    ∧ (markTaken w s).tracks = s.tracks ∧ (markTaken w s).phantom = s.phantom ∧ (markTaken w s).journal = s.journal
    ∧ (markTaken w s).settings = s.settings ∧ (markTaken w s).outputs = s.outputs ∧ (markTaken w s).keys = s.keys
    ∧ (markTaken w s).calls = s.calls ∧ (markTaken w s).talkMask = s.talkMask ∧ (markTaken w s).faults = s.faults
    ∧ (markTaken w s).sent = s.sent ∧ (markTaken w s).pending = s.pending := by
  refine ⟨?_, ?_, ?_, ?_, ?_, ?_, ?_, ?_, ?_, ?_, ?_, ?_, ?_, ?_, ?_, ?_, ?_, ?_, ?_, ?_, ?_, ?_, ?_⟩ <;> rfl

end Sys2Proof.Safety
end

section
/-! SUPPORT and PROOFS. The journal: entries appended one after another (R125, R127), operations taken for every entry of a
list, and the statement that every step keeps the journal. -/
namespace Sys2Proof.Safety

open Sys2Proof.Machine

/-! ## Entries appended one after another -/

@[simp] theorem journalWith_nil (j : Journal) : journalWith [] j = j := by
  simp [journalWith]

/-- The last 32 of a list and of what follows it are the last 32 of both together. -/
theorem drop_drop_append {α : Type} (n : Nat) (xs ys : List α) :
    (xs.drop (xs.length - n) ++ ys).drop ((xs.drop (xs.length - n) ++ ys).length - n)
      = (xs ++ ys).drop ((xs ++ ys).length - n) := by
  by_cases h : xs.length ≤ n
  · simp [Nat.sub_eq_zero_of_le h]
  · have hsplit : (xs ++ ys).length - n = xs.length - n + ys.length := by simp; omega
    have hleft : (xs.drop (xs.length - n) ++ ys).length - n = ys.length := by simp; omega
    rw [hsplit, hleft, ← List.drop_drop, List.drop_append_of_le_length (Nat.sub_le _ _)]

/-- Entries appended in two parts. -/
theorem journalWith_append (a b : List News) (j : Journal) :
    journalWith (a ++ b) j = journalWith b (journalWith a j) := by
  by_cases ha : a = []
  · simp [ha]
  by_cases hb : b = []
  · simp [hb]
  have hgen (i : Nat) : j.gen + BitVec.ofNat 32 (i + a.length + 1)
      = j.gen + BitVec.ofNat 32 a.length + BitVec.ofNat 32 (i + 1) := by
    rw [BitVec.add_assoc, ← BitVec.ofNat_add]
    congr 2
    omega
  have hlast : j.gen + BitVec.ofNat 32 (a.length + b.length)
      = j.gen + BitVec.ofNat 32 a.length + BitVec.ofNat 32 b.length := by
    rw [BitVec.add_assoc, ← BitVec.ofNat_add]
  simp only [journalWith, List.mapIdx_append, hgen, List.append_eq_nil_iff, ha, hb, false_and, if_false,
    List.length_append, hlast]
  have h := drop_drop_append 32 (j.entries ++ a.mapIdx fun i n => (
    { gen := j.gen + BitVec.ofNat 32 (i + 1), kind := n.kind, subject := BitVec.ofNat 8 n.subject, author := n.author
      value := n.value } : Entry))
    (b.mapIdx fun i n =>
      { gen := j.gen + BitVec.ofNat 32 a.length + BitVec.ofNat 32 (i + 1), kind := n.kind
        subject := BitVec.ofNat 8 n.subject, author := n.author, value := n.value })
  simp only [List.length_append, List.length_mapIdx, List.append_assoc] at h ⊢
  rw [h]

@[simp] theorem appendEntry_journal (kind subject author value) (s : State) :
    (appendEntry kind subject author value s).journal = journalWith [⟨kind, subject, author, value⟩] s.journal := by
  simp [appendEntry, journalWith]

/-! ## An operation taken for every entry of a list -/

/-- The journal after an operation that makes the same entries for each element whatever was done for the others. -/
theorem foldl_journal {α : Type} {f : State → α → State} (news : State → α → List News)
    (hjournal : ∀ s a, (f s a).journal = journalWith (news s a) s.journal)
    (hsame : ∀ s a b, b ≠ a → news (f s a) b = news s b) {xs : List α} (hnodup : xs.Nodup) (s : State) :
    (xs.foldl f s).journal = journalWith (xs.flatMap (news s)) s.journal := by
  induction xs generalizing s with
  | nil => simp
  | cons x xs ih =>
    obtain ⟨hx, hxs⟩ := List.nodup_cons.mp hnodup
    have hrest : xs.flatMap (news (f s x)) = xs.flatMap (news s) :=
      List.flatMap_congr fun b hb => hsame s x b fun h => hx (h ▸ hb)
    rw [List.foldl_cons, ih hxs, hrest, hjournal, ← journalWith_append, List.flatMap_cons]

/-- What is read of one element after an operation that writes each element's own entry, from that entry alone. -/
theorem foldl_read {α β : Type} [DecidableEq α] {f : State → α → State} (read : State → α → β) (written : State → α → β)
    (hself : ∀ s a, read (f s a) a = written s a) (hother : ∀ s a b, b ≠ a → read (f s a) b = read s b)
    (hsame : ∀ s a b, b ≠ a → written (f s a) b = written s b) {xs : List α} (hnodup : xs.Nodup) (s : State) (b : α) :
    read (xs.foldl f s) b = if b ∈ xs then written s b else read s b := by
  induction xs generalizing s with
  | nil => simp
  | cons x xs ih =>
    obtain ⟨hx, hxs⟩ := List.nodup_cons.mp hnodup
    rw [List.foldl_cons, ih hxs]
    by_cases hb : b = x
    · subst hb
      simp [hx, hself]
    · simp [hb, hother s x b hb, hsame s x b hb]

theorem flatMap_if {α β : Type} (xs : List α) (test : α → Bool) (g : α → β) :
    (xs.flatMap fun a => if test a then [g a] else []) = (xs.filter test).map g := by
  induction xs with
  | nil => rfl
  | cons x xs ih => cases h : test x <;> simp [h, ih]

/-! ## The rule of the journal -/

set_option Elab.async false in
theorem journalOk_reads : Reads [.journal] JournalOk := by
  intro s t h hs
  have hj : t.journal = s.journal := h .journal (by decide)
  simpa only [JournalOk, hj] using hs

/-- An entry takes the next generation at the tail, and the oldest of 33 leaves at the head. -/
theorem appendEntry_keeps_journalOk {kind subject author value} {s : State} (h : JournalOk s) :
    JournalOk (appendEntry kind subject author value s) := by
  obtain ⟨hlength, hgen⟩ := h
  unfold JournalOk appendEntry
  dsimp only [State.withJournal]
  refine ⟨by simp; omega, fun i hi => ?_⟩
  simp only [List.length_drop, List.length_append, List.length_singleton] at hi ⊢
  rw [List.getElem_drop, List.getElem_append]
  split
  · rename_i hold
    have hk := hgen _ hold
    have hcount : s.journal.entries.length + 1 - (s.journal.entries.length + 1 - 32) - 1 - i
        = s.journal.entries.length - 1 - (s.journal.entries.length + 1 - 32 + i) + 1 := by omega
    rw [hcount, BitVec.ofNat_add, ← BitVec.add_assoc, hk]
    rfl
  · rename_i hnew
    have hcount : s.journal.entries.length + 1 - (s.journal.entries.length + 1 - 32) - 1 - i = 0 := by omega
    simp only [hcount, List.getElem_singleton, BitVec.ofNat_eq_ofNat, BitVec.add_zero]

section
variable {s : State}

/-- A rule of the journal is kept by an operation that changes other blocks and then makes an entry. -/
theorem journalOk_of_entry {k : List Block} {t : State} {kind subject author value} (hframe : SameExcept k s t)
    (h : JournalOk s) (hk : ∀ b ∈ [Block.journal], b ∉ k := by decide) :
    JournalOk (appendEntry kind subject author value t) :=
  appendEntry_keeps_journalOk (journalOk_reads.kept hframe h hk)

theorem movePhantom_keeps_journalOk {a c ch} (h : JournalOk s) : JournalOk (movePhantom a c ch s) := by
  unfold movePhantom
  dsimp only
  split
  · exact journalOk_of_entry (setChannel_frame _ _ _) h
  · exact h

theorem moveBank_keeps_journalOk {a b k} (h : JournalOk s) : JournalOk (moveBank a b k s) :=
  journalOk_of_entry (setBank_frame _ _ _) h

theorem retryChan_keeps_journalOk {c} (h : JournalOk s) : JournalOk (retryChan s c) := by
  unfold retryChan
  dsimp only
  split
  · exact movePhantom_keeps_journalOk h
  · exact h

theorem shedBank_keeps_journalOk {b k} (h : JournalOk s) : JournalOk (shedBank b k s) :=
  journalOk_reads.kept (settle_frame _)
    (foldl_keeps (f := shedChan) (fun _ _ hs => movePhantom_keeps_journalOk hs) _ _ (moveBank_keeps_journalOk h))

theorem retryBank_keeps_journalOk {a b k} (h : JournalOk s) : JournalOk (retryBank a b k s) :=
  journalOk_reads.kept (settle_frame _)
    (foldl_keeps (fun _ _ hs => retryChan_keeps_journalOk hs) _ _ (moveBank_keeps_journalOk h))

theorem takeReading_keeps_journalOk {b n} (h : JournalOk s) : JournalOk (takeReading b n s) := by
  have hshed {k} : JournalOk (holdTimer b (shedBank b k s)) :=
    journalOk_reads.kept (holdTimer_frame _ _) (shedBank_keeps_journalOk h)
  unfold takeReading
  dsimp only
  split
  · split
    · exact hshed
    · split <;> exact hshed
    · exact h
    · exact h
  · exact h

theorem advanceBank_keeps_journalOk {b} (h : JournalOk s) : JournalOk (advanceBank b s) := by
  unfold advanceBank endHoldoff endWatch
  dsimp only
  split
  · split
    · split
      · exact retryBank_keeps_journalOk h
      · exact h
    · exact h
  · split
    · exact journalOk_reads.kept (settle_frame _) (moveBank_keeps_journalOk h)
    · exact h
  · exact h
  · exact h

theorem resetBank_keeps_journalOk {p b} (h : JournalOk s) : JournalOk (resetBank p b s) := by
  unfold resetBank
  dsimp only
  split
  case h_3 | h_4 => exact h
  all_goals exact retryBank_keeps_journalOk h

theorem applyStep_keeps_journalOk {c st} (h : JournalOk s) : JournalOk (applyStep c st s) := by
  unfold applyStep
  dsimp only
  split
  · exact h
  · exact journalOk_reads.kept (settle_frame _)
      (journalOk_of_entry (k := [.channels, .tracks]) ((setChannel_frame _ _ _).seq (anchorRule_frame _ _)) h)

set_option Elab.async false in
theorem captureFrame_keeps_journalOk {c} (h : JournalOk s) : JournalOk (captureFrame c s) := by
  have hmeters : JournalOk (ports.foldl
      (fun u p => setMeter p c (meterFrame (s.latch.captured[c]'c.2) ((u.meters.get p)[c]'c.2)) u) s) := h
  refine journalOk_reads.kept (setChannel_frame _ _ _) ?_
  unfold advanceStep
  dsimp only
  split
  · exact hmeters
  · split
    · exact applyStep_keeps_journalOk hmeters
    · exact hmeters

theorem countMute_keeps_journalOk {c} (h : JournalOk s) : JournalOk (countMute c s) := by
  unfold countMute
  dsimp only
  split
  · exact h
  · split
    · split
      case h_1 | h_2 => exact movePhantom_keeps_journalOk h
      all_goals exact h
    · exact h

theorem expire_keeps_journalOk {p} (h : JournalOk s) : JournalOk (expire p s) := by
  have hrelease (s : State) (hs : JournalOk s) : JournalOk (releaseAll p s) := by
    refine foldl_keeps (fun s o hs => ?_) _ _ (foldl_keeps (fun s c hs => ?_) _ _ hs)
    · unfold releaseOutAtExpiry
      split
      · exact journalOk_of_entry (setOutOwner_frame _ _ _) hs
      · exact hs
    · unfold releaseChanAtExpiry
      split
      · exact journalOk_of_entry (setChanOwner_frame _ _ _) hs
      · exact hs
  unfold expire
  dsimp only
  refine journalOk_reads.kept (settle_frame _) (journalOk_reads.kept (clearCallsAt_frame _ _)
    (journalOk_reads.kept (withTalkMask_frame _ _) ?_))
  split
  · exact hrelease _ h
  · exact h

theorem countPresence_keeps_journalOk {p} (h : JournalOk s) : JournalOk (countPresence p s) := by
  unfold countPresence
  dsimp only
  split
  · exact expire_keeps_journalOk (s := endCalls p s) h
  · split <;> exact h

theorem claimChan_keeps_journalOk {p c} (h : JournalOk s) : JournalOk (claimChan p s c) := by
  unfold claimChan
  split
  · exact journalOk_of_entry (k := [.owners, .tracks]) ((setChanOwner_frame _ _ _).seq (rebase_frame _ _ _)) h
  · exact h
  · exact h

theorem claimOut_keeps_journalOk {p o} (h : JournalOk s) : JournalOk (claimOut p s o) := by
  unfold claimOut
  split
  · exact journalOk_of_entry (setOutOwner_frame _ _ _) h
  · exact h
  · exact h

theorem releaseChan_keeps_journalOk {p c} (h : JournalOk s) : JournalOk (releaseChan p s c) := by
  unfold releaseChan
  split
  · exact journalOk_of_entry (setChanOwner_frame _ _ _) h
  · exact h

theorem releaseOut_keeps_journalOk {p o} (h : JournalOk s) : JournalOk (releaseOut p s o) := by
  unfold releaseOut
  split
  · exact journalOk_of_entry (setOutOwner_frame _ _ _) h
  · exact h

theorem writeItem_keeps_journalOk {p i v} (h : JournalOk s) : JournalOk (writeItem p i v s).state :=
  journalOk_reads.kept (applyItem_frame _ _ _) (journalOk_of_entry (withSettings_frame _ _) h)

theorem handlerOf_keeps_journalOk {before k p m} (htouch : Touches [.journal] (handlerBlocks k)) (h : JournalOk s) :
    JournalOk (handlerOf before k p m s).state := by
  cases k
  case claimChannels =>
    exact judged_state h (journalOk_reads.kept (settle_frame _)
      (foldl_keeps (fun _ _ hs => claimChan_keeps_journalOk hs) _ _ h))
  case releaseChannels => exact judged_state h (foldl_keeps (fun _ _ hs => releaseChan_keeps_journalOk hs) _ _ h)
  case claimOutputs => exact judged_state h (foldl_keeps (fun _ _ hs => claimOut_keeps_journalOk hs) _ _ h)
  case releaseOutputs => exact judged_state h (foldl_keeps (fun _ _ hs => releaseOut_keeps_journalOk hs) _ _ h)
  case setPhantom => exact judged_state h (movePhantom_keeps_journalOk h)
  case phantomReset => exact judged_state h (resetBank_keeps_journalOk h)
  case setOutput =>
    exact judged_state h (journalOk_of_entry (k := [.outputs, .faults]) ((setOutputRec_frame _ _ _).seq (settle_frame _)) h)
  case writeSetting =>
    unfold handlerOf answerWriteSetting
    dsimp only
    split
    · exact h
    · exact judged_state h (writeItem_keeps_journalOk h)
  all_goals exact absurd htouch (by decide)

end

/-- The journal is written by appending entries alone. -/
theorem journalOk_kept : KeptByOperations JournalOk :=
  keptByOperations_of_touched journalOk_reads
    (reset := fun _ _ _ => ⟨Nat.zero_le _, fun i hi => absurd hi (Nat.not_lt_zero i)⟩)
    (handler := fun _ _ _ _ _ htouch _ hs => handlerOf_keeps_journalOk htouch hs)
    (countPresence := fun _ _ _ hs => countPresence_keeps_journalOk hs)
    (captureFrame := fun _ _ _ hs => captureFrame_keeps_journalOk hs)
    (countMute := fun _ _ _ hs => countMute_keeps_journalOk hs)
    (readingWork := fun _ _ hs => takeReading_keeps_journalOk hs)
    (advanceBank := fun _ _ _ hs => advanceBank_keeps_journalOk hs)

/-- Settles O51: every write of the journal is one entry appended, which keeps the generations consecutive. -/
theorem stepKeepsTheJournal : Obligations.StepKeepsTheJournal := fun _ _ hs he => journalOk_kept.step he hs

end Sys2Proof.Safety
end

section
/-! SUPPORT and PROOFS. Which ports the paths carry after each operation on a path receiver (R10), the reply queues and
assembly records (R44, R49, R51), and the statement that every step keeps the lanes. -/
namespace Sys2Proof.Safety

open Sys2Proof.Machine

/-! ## The paths after one receiver was replaced -/

set_option Elab.async false in
theorem otherPath_ne (x : PathName) : otherPath x ≠ x := by cases x <;> decide

theorem eq_or_eq_otherPath (x y : PathName) : y = x ∨ y = otherPath x := by cases x <;> cases y <;> decide

@[simp] theorem setPath_paths (p x r s) : (setPath p x r s).paths = pathsWith p x r s := rfl

@[simp] theorem pathsWith_get_self (p x r s) : ((pathsWith p x r s).get p).get x = r := by
  simp [pathsWith]

theorem pathsWith_get_other (p x r s) {q : Port} {y : PathName} (h : q ≠ p ∨ y ≠ x) :
    ((pathsWith p x r s).get q).get y = (s.paths.get q).get y := by
  unfold pathsWith
  by_cases hq : q = p
  · subst hq
    simp [h.resolve_left (not_not_intro rfl)]
  · simp [hq]

/-- Each receiver after one was replaced. -/
theorem pathsWith_get (p x r s) (q : Port) (y : PathName) :
    ((pathsWith p x r s).get q).get y = if q = p ∧ y = x then r else (s.paths.get q).get y := by
  split
  · rename_i h
    rw [h.1, h.2, pathsWith_get_self]
  · rename_i h
    exact pathsWith_get_other p x r s (by tauto)

/-! ## Which ports are ONLINE (R10) -/

theorem online_eq (s : State) (p : Port) (x : PathName) :
    online s p = (carries (pathRec s p x) || carries (pathRec s p (otherPath x))) := by
  cases x
  · rfl
  · exact Bool.or_comm _ _

theorem online_of_carries {s : State} {p : Port} (x : PathName) (h : carries (pathRec s p x) = true) :
    online s p = true := by rw [online_eq s p x, h, Bool.true_or]

/-- The port of a replaced receiver is carried by what the receiver has become or by its other path. -/
theorem online_setPath_self (p x r s) :
    online (setPath p x r s) p = (carries r || carries (pathRec s p (otherPath x))) := by
  rw [online_eq _ p x, pathRec, pathRec, setPath_paths, pathsWith_get_self,
    pathsWith_get_other p x r s (.inr (otherPath_ne x)), pathRec]

theorem online_setPath_other (p x r s) {q : Port} (h : q ≠ p) : online (setPath p x r s) q = online s q := by
  simp only [online, pathRec, setPath_paths, pathsWith_get_other p x r s (.inl h)]

/-- A receiver that carries its port as before leaves every port ONLINE or OFFLINE. -/
theorem online_setPath_of_same {p x r} {s : State} (h : carries r = carries (pathRec s p x)) (q : Port) :
    online (setPath p x r s) q = online s q := by
  by_cases hq : q = p
  · rw [hq, online_setPath_self, h, ← online_eq]
  · exact online_setPath_other p x r s hq

/-- Whether a receiver carries its port is a matter of its state. -/
theorem carries_of_state {r r' : PathRec} (h : r'.state = r.state) : carries r' = carries r := by
  unfold carries
  rw [h]

set_option Elab.async false in
theorem online_setPath_of_state {p x r} {s : State} (h : r.state = (pathRec s p x).state) (q : Port) :
    online (setPath p x r s) q = online s q := online_setPath_of_same (carries_of_state h) q

theorem carries_of_carrying {p x} {s : State} (h : Carrying p x s) : carries (pathRec s p x) = true := by
  unfold carries pathRec
  rcases h with h | h <;> rw [h] <;> rfl

theorem carries_iff {p x} {s : State} : carries (pathRec s p x) = true ↔ Carrying p x s := by
  simp [carries, pathRec, Carrying]

theorem takeArrival_online (p x c s) (q : Port) : online (takeArrival p x c s) q = online s q := by
  have hacquire (r : PathRec) : (acquireArrival c r).state = r.state := by
    unfold acquireArrival
    dsimp only
    split <;> rfl
  have hplace (r : PathRec) : online (placeCopy p c (setPath p x r s)) q = online (setPath p x r s) q :=
    online_of_paths (placeCopy_frame p c _ .paths (by decide)) q
  unfold takeArrival
  dsimp only
  split
  · rfl
  · rename_i h
    exact online_setPath_of_same (by rw [carries, hacquire, carries, h]; rfl) q
  · exact online_setPath_of_state (hacquire _) q
  all_goals
    rw [hplace]
    exact online_setPath_of_state (by rfl) q

theorem arriveFrame_online (p x f s) (q : Port) : online (arriveFrame p x f s) q = online s q := by
  have hperiod (u : State) : online (endPeriod p x u) q = online u q :=
    online_of_paths (endPeriod_frame p x u .paths (by decide)) q
  unfold arriveFrame
  split
  · dsimp only
    rw [online_settle, takeArrival_online, hperiod]
    exact online_setPath_of_state (by rfl) q
  · rfl

/-- A receiver that only moves its place in the stream. -/
theorem online_setPath_rx (p x rx s) (q : Port) : online (setPath p x { pathRec s p x with rx := rx } s) q = online s q :=
  online_setPath_of_state (by rfl) q

theorem matchSync_online (p x bits s) (q : Port) : online (matchSync p x bits s) q = online s q := by
  unfold matchSync
  dsimp only
  split
  · exact online_setPath_rx p x _ s q
  · rfl

theorem examineNext_online (p x next s) (q : Port) : online (examineNext p x next s) q = online s q := by
  unfold examineNext
  dsimp only
  split
  · exact online_setPath_rx p x _ s q
  · rfl

theorem loseSignal_online (p x s) (q : Port) : online (loseSignal p x s) q = online s q := by
  unfold loseSignal
  dsimp only
  split
  · have h := online_setPath_rx p x .hunting (s.withSignal (s.signal.set p ((s.signal.get p).set x false))) q
    split
    · split
      · exact (online_of_paths (moveReference_frame _ _ _ .paths (by decide)) q).trans h
      · exact h
    · exact h
  · rfl

theorem returnSignal_online (p x s) (q : Port) : online (returnSignal p x s) q = online s q := by
  unfold returnSignal
  dsimp only
  split
  · rfl
  · have h := online_setPath_rx p x .hunting (s.withSignal (s.signal.set p ((s.signal.get p).set x true))) q
    split <;> exact h

theorem goUp_online_self (p x n s) : online (goUp p x n s) p = true := by
  have h : online (setPath p x { PathRec.dark with rx := (pathRec s p x).rx, state := .up, goodCount := n } s) p = true := by
    rw [online_setPath_self]
    rfl
  unfold goUp
  dsimp only
  split
  · split
    · exact (online_of_paths (placeCopy_frame _ _ _ .paths (by decide)) p).trans h
    · exact h
  · exact (online_of_paths (goOnline_frame _ _ _ _ .paths (by decide)) p).trans h

theorem goUp_online_other (p x n s) {q : Port} (hq : q ≠ p) : online (goUp p x n s) q = online s q := by
  have h : online (setPath p x { PathRec.dark with rx := (pathRec s p x).rx, state := .up, goodCount := n } s) q
      = online s q := online_setPath_other _ _ _ _ hq
  unfold goUp
  dsimp only
  split
  · split
    · exact (online_of_paths (placeCopy_frame _ _ _ .paths (by decide)) q).trans h
    · exact h
  · exact (online_of_paths (goOnline_frame _ _ _ _ .paths (by decide)) q).trans h

set_option Elab.async false in
/-- A path in ACQUIRE that scores without going UP carries its port as little as before: the receiver's record is one
that is not in UP or DEGRADED. -/
theorem scoreAcquire_cases {p x} {s : State} (h : (pathRec s p x).state = .acquire) :
    (∃ n, scoreAcquire p x s = goUp p x n s)
      ∨ ∃ r, scoreAcquire p x s = setPath p x r s ∧ (r.state = .dark ∨ r.state = .acquire) := by
  unfold scoreAcquire
  dsimp only
  split
  · split
    · exact .inr ⟨_, rfl, .inl rfl⟩
    · exact .inr ⟨_, rfl, .inr h⟩
  · split
    · exact .inr ⟨_, rfl, .inr h⟩
    · split
      · exact .inl ⟨_, rfl⟩
      · exact .inr ⟨_, rfl, .inr h⟩

theorem advanceBlock_carries {r : PathRec} (h : carries r = true) : carries (advanceBlock r) = true := by
  unfold advanceBlock
  split
  · simp only [carries]
    split <;> rfl
  · exact h

/-- A carrying path that scores stays carrying or leaves with a bare receiver in DARK. -/
theorem scoreCarrying_cases {p x} {s : State} (h : carries (pathRec s p x) = true) :
    scoreCarrying p x s = leaveCarrying p x (clearedPath .dark (pathRec s p x)) s
      ∨ ∃ r, scoreCarrying p x s = setPath p x r s ∧ carries r = true := by
  unfold scoreCarrying
  dsimp only
  generalize (if (pathRec s p x).arrived = true then 0 else (pathRec s p x).missRun + 1) = n
  split
  · exact .inl rfl
  · exact .inr ⟨_, rfl, advanceBlock_carries (r := { pathRec s p x with missRun := n }) h⟩

/-! ## The rule of the lanes -/

/-- The rule of one port's lane, while the port is ONLINE or not (R44, R49, R51). -/
def LaneRule (online : Bool) (l : Lane) : Prop :=
  l.queue.length ≤ 8 ∧ (online = false → l.queue = [] ∧ l.asm = none)
    ∧ match l.queue with
      | [] => l.sent = 0
      | r :: _ => l.sent < 1 + r.body.length

theorem lanesOk_iff {s : State} : LanesOk s ↔ ∀ p, LaneRule (online s p) (s.lanes.get p) := Iff.rfl

theorem laneRule_empty (o : Bool) : LaneRule o { asm := none, queue := [], sent := 0 } :=
  ⟨Nat.zero_le _, fun _ => ⟨rfl, rfl⟩, rfl⟩

/-- A port that goes ONLINE has no rule the more. -/
theorem LaneRule.online {o : Bool} {l : Lane} (h : LaneRule o l) : LaneRule true l := ⟨h.1, nofun, h.2.2⟩

theorem lanesOk_reads : Reads [.lanes, .paths] LanesOk := by
  intro s t h hs p
  have hl : t.lanes = s.lanes := h .lanes (by decide)
  rw [hl, online_of_paths (h .paths (by decide)) p]
  exact hs p

/-- The same lanes under paths that carry the same ports. -/
theorem lanesOk_of_online {s t : State} (hs : LanesOk s) (hl : t.lanes = s.lanes)
    (h : ∀ p, online t p = online s p) : LanesOk t := by
  intro p
  rw [hl, h]
  exact hs p

/-- One port's lane replaced. -/
theorem lanesOk_setLane {p : Port} {l : Lane} {s : State} (hs : LanesOk s) (hl : LaneRule (online s p) l) :
    LanesOk (setLane p l s) := by
  intro q
  have hget : (setLane p l s).lanes.get q = if q = p then l else s.lanes.get q := PerPort.get_set _ _ _ _
  change LaneRule (online s q) ((setLane p l s).lanes.get q)
  rw [hget]
  by_cases hq : q = p
  · rw [if_pos hq, hq]
    exact hl
  · rw [if_neg hq]
    exact hs q

theorem goOffline_lanes (old p s) :
    (goOffline old p s).lanes = s.lanes.set p { asm := none, queue := [], sent := 0 } := rfl

theorem goOffline_online (old p s) (q : Port) : online (goOffline old p s) q = online s q :=
  online_of_paths (goOffline_frame old p s .paths (by decide)) q

theorem leaveCarrying_paths (p x r s) : (leaveCarrying p x r s).paths = pathsWith p x r s := by
  unfold leaveCarrying
  dsimp only
  split
  · split
    · exact moveReference_frame _ _ _ .paths (by decide)
    · rfl
  · exact goOffline_frame _ _ _ .paths (by decide)

set_option Elab.async false in
theorem leaveCarrying_online (p x r s) (q : Port) : online (leaveCarrying p x r s) q = online (setPath p x r s) q :=
  online_of_paths (s := setPath p x r s) (leaveCarrying_paths p x r s) q

/-- A port that loses its last path has its lanes emptied with it, and no lane is otherwise touched. -/
theorem leaveCarrying_lanes (p x r s) :
    (leaveCarrying p x r s).lanes
      = if online (setPath p x r s) p then s.lanes else s.lanes.set p { asm := none, queue := [], sent := 0 } := by
  unfold leaveCarrying
  dsimp only
  split
  · split
    · exact moveReference_frame _ _ _ .lanes (by decide)
    · rfl
  · rfl

theorem leaveCarrying_keeps_lanesOk {p x r} {s : State} (hs : LanesOk s) : LanesOk (leaveCarrying p x r s) := by
  intro q
  change LaneRule _ _
  rw [leaveCarrying_online, leaveCarrying_lanes]
  by_cases hq : q = p
  · subst hq
    cases ho : online (setPath q x r s) q
    · simpa using laneRule_empty false
    · exact LaneRule.online (hs q)
  · have hlane : (if online (setPath p x r s) p then s.lanes
        else s.lanes.set p { asm := none, queue := [], sent := 0 }).get q = s.lanes.get q := by
      split
      · rfl
      · exact PerPort.get_set_ne _ _ hq
    rw [hlane, online_setPath_other _ _ _ _ hq]
    exact hs q

theorem setPath_keeps_lanesOk {p x r} {s : State} (hs : LanesOk s) (h : carries r = carries (pathRec s p x)) :
    LanesOk (setPath p x r s) := lanesOk_of_online hs rfl (online_setPath_of_same h)

theorem scorePath_keeps_lanesOk {p x} {s : State} (hs : LanesOk s) : LanesOk (scorePath p x s) := by
  have hcarrying (h : carries (pathRec s p x) = true) : LanesOk (settle (scoreCarrying p x s)) := by
    refine lanesOk_reads.kept (settle_frame _) ?_
    rcases scoreCarrying_cases h with hscore | ⟨r, hscore, hr⟩
    · rw [hscore]
      exact leaveCarrying_keeps_lanesOk hs
    · rw [hscore]
      exact setPath_keeps_lanesOk hs (hr.trans h.symm)
  unfold scorePath
  split
  · exact hs
  · exact hs
  · rename_i h
    refine lanesOk_reads.kept (settle_frame _) ?_
    rcases scoreAcquire_cases h with ⟨n, hscore⟩ | ⟨r, hscore, hr⟩
    · rw [hscore]
      intro q
      have hl : (goUp p x n s).lanes = s.lanes := goUp_frame p x n s .lanes (by decide)
      change LaneRule _ _
      rw [hl]
      by_cases hq : q = p
      · rw [hq, goUp_online_self]
        exact LaneRule.online (hs p)
      · rw [goUp_online_other _ _ _ _ hq]
        exact hs q
    · rw [hscore]
      refine setPath_keeps_lanesOk hs ?_
      have hold : carries (pathRec s p x) = false := by rw [carries, h]; rfl
      rcases hr with hr | hr <;> rw [hold, carries, hr] <;> rfl
  · rename_i h
    exact hcarrying (by simp [carries, h])
  · rename_i h
    exact hcarrying (by simp [carries, h])

theorem setAssembly_keeps_lanesOk {p a} {s : State} (hs : LanesOk s) (h : online s p = true ∨ a = none) :
    LanesOk (setAssembly p a s) := by
  obtain ⟨hlength, hoffline, hsent⟩ := hs p
  refine lanesOk_setLane hs ⟨hlength, fun ho => ⟨(hoffline ho).1, ?_⟩, hsent⟩
  exact h.resolve_left (by simp [ho])

theorem dropPartial_keeps_lanesOk {p} {s : State} (hs : LanesOk s) : LanesOk (dropPartial p s) := by
  unfold dropPartial
  split
  · exact hs
  · dsimp only
    have h := setAssembly_keeps_lanesOk (p := p) (a := none) hs (.inr rfl)
    split
    · exact lanesOk_reads.kept (raiseAt_frame _ _ _) h
    · exact h

/-- A missing playout reaches the lanes by the break that it ends with. -/
theorem missFrame_keeps_lanesOk {p} {s : State} (hs : LanesOk s) : LanesOk (missFrame p s) := by
  unfold missFrame
  refine dropPartial_keeps_lanesOk ?_
  dsimp only
  split
  · exact hs
  · split
    · exact lanesOk_reads.kept (resyncWindow_frame _ _) hs
    · exact hs

/-- A reply joins the tail of a queue that has room. -/
theorem enqueue_keeps_lanesOk {p kind tag} {a : Answer} (hroom : HasRoom p a.state) (hs : LanesOk a.state) :
    LanesOk (enqueue p kind tag a) := by
  obtain ⟨-, -, hsent⟩ := hs p
  unfold enqueue
  split
  · rename_i ho
    refine lanesOk_setLane hs ⟨?_, fun h => absurd (ho.symm.trans h) (by decide), ?_⟩
    · simpa using Nat.succ_le_of_lt hroom
    · cases hq : (a.state.lanes.get p).queue with
      | nil =>
        rw [hq] at hsent
        simp [hsent]
      | cons r rest =>
        rw [hq] at hsent
        exact hsent
  · exact hs

/-! ### Reply words taken (R51) -/

/-- A word taken from a lane advances the head reply or, at its last word, takes it off the queue. -/
theorem nextReplyWord_keeps_laneRule {o u} {l : Lane} (h : LaneRule o l) : LaneRule o (nextReplyWord u l).2 := by
  obtain ⟨hlength, hoffline, hsent⟩ := h
  unfold nextReplyWord
  split
  · exact ⟨hlength, hoffline, hsent⟩
  · rename_i r rest hq
    have hempty (ho : o = false) : False := by simpa [hq] using (hoffline ho).1
    rw [hq] at hlength hsent
    dsimp only
    split
    · refine ⟨by simpa using Nat.le_of_succ_le hlength, fun ho => (hempty ho).elim, ?_⟩
      cases rest <;> simp
    · rename_i hmore
      refine ⟨by rw [hq]; exact hlength, fun ho => (hempty ho).elim, ?_⟩
      rw [hq]
      simp only [replyWords, List.length_cons, List.length_map] at hmore
      show l.sent + 1 < 1 + r.body.length
      omega

theorem laneAfter_keeps_laneRule {o u} {l : Lane} (h : LaneRule o l) (n : Nat) : LaneRule o (laneAfter u l n) := by
  induction n with
  | zero => exact h
  | succ n ih => exact nextReplyWord_keeps_laneRule ih

theorem buildFrames_keeps_lanesOk {s : State} (hs : LanesOk s) : LanesOk (buildFrames s) := by
  refine lanesOk_reads.kept (withFrameNo_frame _ _) (foldl_keeps (fun s p hs => ?_) ports s hs)
  refine lanesOk_reads.kept (withSent_frame _ _) (lanesOk_setLane (s := markSendClips p s) hs ?_)
  exact laneAfter_keeps_laneRule (hs p) 4

set_option Elab.async false in
theorem writePathFlag_keeps_lanesOk {a b p x} {s : State} (hs : LanesOk s) : LanesOk (writePathFlag a b p x s) := by
  unfold writePathFlag
  split
  · unfold disablePath
    dsimp only
    split
    · exact leaveCarrying_keeps_lanesOk hs
    · rename_i h
      refine setPath_keeps_lanesOk hs ?_
      rw [Bool.eq_false_iff.mpr h]
      rfl
  · unfold enablePath
    split
    · rename_i h
      refine setPath_keeps_lanesOk hs ?_
      have hr : carries (pathRec s p x) = false := by rw [carries, eq_of_beq h]; rfl
      exact hr.symm
    · exact hs
  · exact hs

theorem applyItem_keeps_lanesOk {i old} {s : State} (hs : LanesOk s) : LanesOk (applyItem i old s) := by
  cases i
  case clockPriority => exact hs
  case pathEnable =>
    exact lanesOk_reads.kept (settle_frame _) <| foldl_keeps
      (fun _ _ hs => foldl_keeps (fun _ _ hs => writePathFlag_keeps_lanesOk hs) _ _ hs) _ _ hs
  case key => exact lanesOk_reads.kept (applyKeyConfig_frame _ _ _) hs
  case timeout => exact lanesOk_reads.kept (holdTimeout_frame _ _ _) hs
  all_goals exact hs

theorem handlerOf_keeps_lanesOk {before k p m} {s : State} (htouch : Touches [.lanes, .paths] (handlerBlocks k))
    (hs : LanesOk s) : LanesOk (handlerOf before k p m s).state := by
  cases k
  case writeSetting =>
    unfold handlerOf answerWriteSetting
    dsimp only
    split
    · exact hs
    · exact judged_state hs (applyItem_keeps_lanesOk hs)
  all_goals exact absurd htouch (by decide)

/-- The lanes are reached by the control words, the replies and their words, and the ports that go OFFLINE. -/
theorem lanesOk_kept : KeptByOperations LanesOk :=
  keptByOperations_of_touched lanesOk_reads
    (reset := fun _ _ _ p => by cases p <;> exact laneRule_empty _)
    (handler := fun _ _ _ _ _ htouch _ hs => handlerOf_keeps_lanesOk htouch hs)
    (arriveFrame := fun _ p x f s hs =>
      lanesOk_of_online hs (arriveFrame_frame p x f s .lanes (by decide)) (arriveFrame_online p x f s))
    (loseSignal := fun _ p x s hs =>
      lanesOk_of_online hs (loseSignal_frame p x s .lanes (by decide)) (loseSignal_online p x s))
    (returnSignal := fun _ p x s hs =>
      lanesOk_of_online hs (returnSignal_frame p x s .lanes (by decide)) (returnSignal_online p x s))
    (matchSync := fun _ p x b s hs =>
      lanesOk_of_online hs (matchSync_frame p x b s .lanes (by decide)) (matchSync_online p x b s))
    (examineNext := fun _ p x n s hs =>
      lanesOk_of_online hs (examineNext_frame p x n s .lanes (by decide)) (examineNext_online p x n s))
    (scorePath := fun _ _ _ _ hs => scorePath_keeps_lanesOk hs)
    (missFrame := fun _ _ _ _ hs => missFrame_keeps_lanesOk hs)
    (dropPartial := fun _ _ _ hs => dropPartial_keeps_lanesOk hs)
    (setAssembly := fun _ _ _ _ ho hs => setAssembly_keeps_lanesOk hs (.inl ho))
    (enqueue := fun _ _ _ _ _ hroom hs => enqueue_keeps_lanesOk hroom hs)
    (buildFrames := fun _ _ hs => buildFrames_keeps_lanesOk hs)

/-- Settles O52: a queue grows by one reply where it has room, shrinks word by word, and is emptied with its port. -/
theorem stepKeepsTheLanes : Obligations.StepKeepsTheLanes := fun _ _ hs he => lanesOk_kept.step he hs

end Sys2Proof.Safety
end

section
/-! SUPPORT and PROOFS. One entry of a table after a write, the tracking records after each operation on them (R93, R95,
R96, R100), and the statement that every step keeps the tracking table. -/
namespace Sys2Proof.Safety

open Sys2Proof.Machine

/-! ## One entry after a write -/

theorem setTrack_get (p c t s) (q : Port) (d : Chan) :
    (((setTrack p c t s).tracks.get q)[d]'d.2) = if q = p ∧ d = c then t else ((s.tracks.get q)[d]'d.2) := by
  have h : (setTrack p c t s).tracks = s.tracks.set p (vset (s.tracks.get p) c t) := rfl
  rw [h, PerPort.get_set]
  by_cases hq : q = p
  · subst hq
    simp only [if_true, true_and, vset_get]
  · simp [hq]

theorem setChannel_get (c ch s) (d : Chan) : ((setChannel c ch s).channels[d]'d.2) = if d
    = c then ch else (s.channels[d]'d.2) :=
  vset_get _ _ _ _

theorem setChanOwner_get (c o s) (d : Chan) :
    ((setChanOwner c o s).owners.chan[d]'d.2) = if d = c then o else (s.owners.chan[d]'d.2) := vset_get _ _ _ _

theorem rebase_get (p c s) (q : Port) (d : Chan) :
    (((rebase p c s).tracks.get q)[d]'d.2)
      = if q = p ∧ d = c then rebased (s.channels[c]'c.2).eff ((s.tracks.get p)[c]'c.2) else ((s.tracks.get q)[d]'d.2) :=
  setTrack_get _ _ _ _ _ _

theorem ports_nodup : ports.Nodup := by decide

theorem mem_ports (p : Port) : p ∈ ports := by cases p <;> decide

/-- The anchor rule writes the channel's three records, each from itself, and no other (R95). -/
theorem anchorRule_get (c s) (p : Port) (d : Chan) :
    (((anchorRule c s).tracks.get p)[d]'d.2)
      = if d = c then anchorOne (s.owners.chan[c]'c.2) (s.channels[c]'c.2).eff p
          ((s.tracks.get p)[c]'c.2) else ((s.tracks.get p)[d]'d.2) := by
  unfold anchorRule
  by_cases hd : d = c
  · subst hd
    rw [if_pos rfl, foldl_read (fun s p => ((s.tracks.get p)[d]'d.2))
      (fun s p => anchorOne (s.owners.chan[d]'d.2) (s.channels[d]'d.2).eff p ((s.tracks.get p)[d]'d.2))
          (fun s p => ?_) (fun s p q hq => ?_)
      (fun s p q hq => ?_) ports_nodup, if_pos (mem_ports p)]
    · rw [setTrack_get, if_pos ⟨rfl, rfl⟩]
    · rw [setTrack_get, if_neg (by tauto)]
    · rw [setTrack_get, if_neg (by tauto)]
      rfl
  · rw [if_neg hd]
    refine foldl_keeps (I := fun u => ((u.tracks.get p)[d]'d.2) = ((s.tracks.get p)[d]'d.2)) (fun u q hu => ?_) ports s rfl
    rw [setTrack_get, if_neg (by tauto), hu]

/-! ## The rule of one record -/

/-- The rule of one tracking record of a channel with effective gain E, which its port owns or not (R93, R95). -/
def TrackRule (owned : Prop) (E : Int) (t : Track) : Prop :=
  t.gain = max (-60) (min (t.trim + t.anchor - E) 36)
    ∧ (t.limited = true ↔ t.trim + t.anchor - E < -60 ∨ 36 < t.trim + t.anchor - E)
    ∧ (owned ∨ t.tracking = false → t.anchor = E)

set_option Elab.async false in
theorem tracksOk_iff {s : State} :
    TracksOk s ↔ ∀ p (c : Chan), TrackRule ((s.owners.chan[c]'c.2) = some p) (s.channels[c]'c.2).eff
        ((s.tracks.get p)[c]'c.2) := Iff.rfl

/-- A record with its gain recomputed keeps the rule where its anchor is E when it has to be. -/
theorem trackRule_recompute {owned : Prop} {E : Int} {t : Track} (h : owned ∨ t.tracking = false → t.anchor = E) :
    TrackRule owned E (recompute E t) := ⟨rfl, by simp [recompute], h⟩

theorem trackRule_rebased (owned : Prop) (E : Int) (t : Track) : TrackRule owned E (rebased E t) :=
  trackRule_recompute fun _ => rfl

/-- A port that loses a channel has no rule the more. -/
theorem TrackRule.mono {owned owned' : Prop} {E : Int} {t : Track} (h : TrackRule owned E t) (ho : owned' → owned) :
    TrackRule owned' E t := ⟨h.1, h.2.1, fun hh => h.2.2 (hh.imp_left ho)⟩

/-- With tracking OFF the rule asks for the anchor at E, which the rebase before the flag's fall has brought about. -/
theorem TrackRule.withTracking {owned : Prop} {E : Int} {t : Track} (h : TrackRule owned E t) {on : Bool}
    (ha : on = false → t.anchor = E) : TrackRule owned E { t with tracking := on } :=
  ⟨h.1, h.2.1, fun hh => hh.elim (fun ho => h.2.2 (.inl ho)) ha⟩

theorem trackRule_anchorOne {o : Option Port} {E : Int} {p : Port} (t : Track) :
    TrackRule (o = some p) E (anchorOne o E p t) := by
  unfold anchorOne
  refine trackRule_recompute fun h => ?_
  split
  · rfl
  · rename_i hno
    rw [if_neg hno] at h
    simp only [Bool.or_eq_true, beq_iff_eq, Bool.not_eq_true'] at hno
    exact absurd h hno

/-! ## The rule of the tracking table -/

theorem tracksOk_reads : Reads [.tracks, .channels, .owners] TracksOk := by
  intro s t h hs p c
  have ht : t.tracks = s.tracks := h .tracks (by decide)
  have hc : t.channels = s.channels := h .channels (by decide)
  have ho : t.owners = s.owners := h .owners (by decide)
  rw [ht, hc, ho]
  exact hs p c

/-- The rule looks at the channels' effective gains alone. -/
theorem tracksOk_of_eff {s t : State} (hs : TracksOk s) (htracks : t.tracks = s.tracks) (howners : t.owners = s.owners)
    (heff : ∀ c : Chan, (t.channels[c]'c.2).eff = (s.channels[c]'c.2).eff) : TracksOk t := by
  intro p c
  rw [htracks, howners, heff]
  exact hs p c

theorem requestPhantom_eff (bank on) (ch : Channel) : (requestPhantom bank on ch).1.eff = ch.eff := by
  unfold requestPhantom
  split
  case h_1 => split <;> rfl
  all_goals rfl

section
variable {s : State} (hs : TracksOk s)
include hs

theorem tracksOk_setTrack {p : Port} {c : Chan} {t : Track}
    (ht : TrackRule ((s.owners.chan[c]'c.2) = some p) (s.channels[c]'c.2).eff t) :
    TracksOk (setTrack p c t s) := by
  intro q d
  rw [setTrack_get]
  split
  · rename_i h
    obtain ⟨rfl, rfl⟩ := h
    exact ht
  · exact hs q d

/-- A channel's record replaced by one with the same effective gain. -/
theorem tracksOk_setChannel {c : Chan} {ch : Channel} (h : ch.eff = (s.channels[c]'c.2).eff) : TracksOk
    (setChannel c ch s) := by
  refine tracksOk_of_eff hs rfl rfl fun d => ?_
  rw [setChannel_get]
  split
  · rename_i hd
    rw [hd, h]
  · rfl

/-- A channel that loses its owner. -/
theorem tracksOk_disown {c : Chan} : TracksOk (setChanOwner c none s) := by
  intro p d
  refine TrackRule.mono (hs p d) ?_
  rw [setChanOwner_get]
  split
  · exact nofun
  · exact id

set_option Elab.async false in
/-- A claimed channel: the claimer's record is rebased, and no other port owns the channel now (R97). -/
theorem claimChan_keeps_tracksOk {p : Port} {c : Chan} : TracksOk (claimChan p s c) := by
  unfold claimChan
  split
  · refine tracksOk_reads.kept (appendEntry_frame _ _ _ _ _) fun q d => ?_
    rw [rebase_get]
    split
    · rename_i h
      obtain ⟨rfl, rfl⟩ := h
      exact trackRule_rebased _ _ _
    · rename_i h
      refine TrackRule.mono (hs q d) ?_
      intro ho
      have howner : ((setChanOwner c (some p) s).owners.chan[d]'d.2) = some q := ho
      rw [setChanOwner_get] at howner
      split at howner
      · exact absurd ⟨(Option.some.inj howner).symm, ‹_›⟩ h
      · exact howner
  · exact hs
  · exact hs

theorem releaseChan_keeps_tracksOk {p : Port} {c : Chan} : TracksOk (releaseChan p s c) := by
  unfold releaseChan
  split
  · exact tracksOk_reads.kept (appendEntry_frame _ _ _ _ _) (tracksOk_disown hs)
  · exact hs

theorem releaseChanAtExpiry_keeps_tracksOk {p : Port} {c : Chan} : TracksOk (releaseChanAtExpiry p s c) := by
  unfold releaseChanAtExpiry
  split
  · exact tracksOk_reads.kept (appendEntry_frame _ _ _ _ _) (tracksOk_disown hs)
  · exact hs

/-- The outputs' owners are no matter of the rule. -/
theorem tracksOk_of_outOwner {t : State} (htracks : t.tracks = s.tracks) (hchan : t.owners.chan = s.owners.chan)
    (hchannels : t.channels = s.channels) : TracksOk t := by
  intro p c
  rw [htracks, hchan, hchannels]
  exact hs p c

theorem claimOut_keeps_tracksOk {p : Port} {o : OutId} : TracksOk (claimOut p s o) := by
  unfold claimOut
  split
  · exact tracksOk_of_outOwner hs rfl rfl rfl
  · exact hs
  · exact hs

theorem releaseOut_keeps_tracksOk {p : Port} {o : OutId} : TracksOk (releaseOut p s o) := by
  unfold releaseOut
  split
  · exact tracksOk_of_outOwner hs rfl rfl rfl
  · exact hs

theorem releaseOutAtExpiry_keeps_tracksOk {p : Port} {o : OutId} : TracksOk (releaseOutAtExpiry p s o) := by
  unfold releaseOutAtExpiry
  split
  · exact tracksOk_of_outOwner hs rfl rfl rfl
  · exact hs

theorem expire_keeps_tracksOk {p : Port} : TracksOk (expire p s) := by
  unfold expire
  dsimp only
  refine tracksOk_reads.kept (settle_frame _) (tracksOk_reads.kept (clearCallsAt_frame _ _)
    (tracksOk_reads.kept (withTalkMask_frame _ _) ?_))
  split
  · exact foldl_keeps (I := TracksOk) (fun _ _ h => releaseOutAtExpiry_keeps_tracksOk h) _ _
      (foldl_keeps (I := TracksOk) (fun _ _ h => releaseChanAtExpiry_keeps_tracksOk h) _ _ hs)
  · exact hs

theorem countPresence_keeps_tracksOk {p : Port} : TracksOk (countPresence p s) := by
  unfold countPresence
  dsimp only
  split
  · exact expire_keeps_tracksOk (s := endCalls p s) hs
  · split <;> exact hs

/-- A flag that falls rebases its record first; any other leaves T, A and D (R100). -/
theorem setTrackingOne_keeps_tracksOk {p : Port} {on : Bool} {c : Chan} : TracksOk (setTrackingOne p on s c) := by
  refine tracksOk_setTrack hs ?_
  split
  · exact (trackRule_rebased _ _ _).withTracking fun _ => rfl
  · rename_i h
    refine TrackRule.withTracking (hs p c) fun hon => (hs p c).2.2 (.inr ?_)
    simpa [hon] using h

/-- A step that is applied moves E, and the anchor rule the three records with it (R79, R95). -/
theorem applyStep_keeps_tracksOk {c : Chan} {st : Step} : TracksOk (applyStep c st s) := by
  unfold applyStep
  dsimp only
  split
  · exact tracksOk_setChannel hs rfl
  · refine tracksOk_reads.kept (settle_frame _) (tracksOk_reads.kept (appendEntry_frame _ _ _ _ _) fun p d => ?_)
    rw [anchorRule_get]
    by_cases hd : d = c
    · subst hd
      rw [if_pos rfl]
      exact trackRule_anchorOne _
    · rw [if_neg hd]
      have hch (ch : Channel) : ((anchorRule c (setChannel c ch s)).channels[d]'d.2).eff = (s.channels[d]'d.2).eff := by
        have h : (anchorRule c (setChannel c ch s)).channels = (setChannel c ch s).channels :=
          anchorRule_frame c _ .channels (by decide)
        rw [h, setChannel_get, if_neg hd]
      have hown (ch : Channel) : (anchorRule c (setChannel c ch s)).owners = s.owners :=
        anchorRule_frame c _ .owners (by decide)
      rw [hch, hown]
      exact hs p d

theorem captureFrame_keeps_tracksOk {c : Chan} : TracksOk (captureFrame c s) := by
  have hmeters : TracksOk (ports.foldl
      (fun u p => setMeter p c (meterFrame (s.latch.captured[c]'c.2) ((u.meters.get p)[c]'c.2)) u) s) := hs
  have hstep {u : State} (hu : TracksOk u) {f} : TracksOk (advanceStep c f u) := by
    unfold advanceStep
    dsimp only
    split
    · exact hu
    · split
      · exact applyStep_keeps_tracksOk hu
      · exact tracksOk_setChannel hu rfl
  exact tracksOk_setChannel (hstep hmeters) rfl

set_option Elab.async false in
theorem movePhantom_keeps_tracksOk {a : Option Port} {c : Chan} {ch : Channel} (h : ch.eff = (s.channels[c]'c.2).eff) :
    TracksOk (movePhantom a c ch s) := by
  have hset : TracksOk (setChannel c (sendSetting ch) s) := tracksOk_setChannel hs h
  unfold movePhantom
  dsimp only
  split
  · exact tracksOk_reads.kept (appendEntry_frame _ _ _ _ _) hset
  · exact hset

theorem countMute_keeps_tracksOk {c : Chan} : TracksOk (countMute c s) := by
  unfold countMute
  dsimp only
  split
  · exact hs
  · split
    · split
      case h_1 | h_2 => exact movePhantom_keeps_tracksOk hs rfl
      all_goals exact tracksOk_setChannel hs rfl
    · exact tracksOk_setChannel hs rfl

theorem retryChan_keeps_tracksOk {c : Chan} : TracksOk (retryChan s c) := by
  unfold retryChan
  dsimp only
  split
  · exact movePhantom_keeps_tracksOk hs rfl
  · exact hs

theorem shedBank_keeps_tracksOk {b : BankId} {k : Bank} : TracksOk (shedBank b k s) :=
  tracksOk_reads.kept (settle_frame _) (foldl_keeps (I := TracksOk) (f := shedChan)
    (fun _ _ h => movePhantom_keeps_tracksOk h rfl) _ _ (tracksOk_reads.kept (moveBank_frame none b k s) hs))

theorem retryBank_keeps_tracksOk {a : Option Port} {b : BankId} {k : Bank} : TracksOk (retryBank a b k s) :=
  tracksOk_reads.kept (settle_frame _) (foldl_keeps (I := TracksOk) (fun _ _ h => retryChan_keeps_tracksOk h) _ _
    (tracksOk_reads.kept (moveBank_frame a b k s) hs))

theorem takeReading_keeps_tracksOk {b : BankId} {n : Nat} : TracksOk (takeReading b n s) := by
  have hshed {k : Bank} : TracksOk (holdTimer b (shedBank b k s)) :=
    tracksOk_reads.kept (holdTimer_frame _ _) (shedBank_keeps_tracksOk hs)
  unfold takeReading
  dsimp only
  split
  · split
    · exact hshed
    · split <;> exact hshed
    · exact hs
    · exact hs
  · exact hs

theorem advanceBank_keeps_tracksOk {b : BankId} : TracksOk (advanceBank b s) := by
  unfold advanceBank endHoldoff
  dsimp only
  split
  · split
    · split
      · exact retryBank_keeps_tracksOk hs
      · exact hs
    · exact hs
  · split <;> exact hs
  · exact hs
  · exact hs

theorem resetBank_keeps_tracksOk {p : Port} {b : BankId} : TracksOk (resetBank p b s) := by
  unfold resetBank
  dsimp only
  split
  case h_3 | h_4 => exact hs
  all_goals exact retryBank_keeps_tracksOk hs

theorem handlerOf_keeps_tracksOk {before k p m} (htouch : Touches [.tracks, .channels, .owners] (handlerBlocks k)) :
    TracksOk (handlerOf before k p m s).state := by
  cases k
  case claimChannels =>
    exact judged_state hs (tracksOk_reads.kept (settle_frame _)
      (foldl_keeps (I := TracksOk) (fun _ _ h => claimChan_keeps_tracksOk h) _ _ hs))
  case releaseChannels => exact judged_state hs (foldl_keeps (I := TracksOk) (fun _ _ h => releaseChan_keeps_tracksOk h) _ _ hs)
  case claimOutputs => exact judged_state hs (foldl_keeps (I := TracksOk) (fun _ _ h => claimOut_keeps_tracksOk h) _ _ hs)
  case releaseOutputs => exact judged_state hs (foldl_keeps (I := TracksOk) (fun _ _ h => releaseOut_keeps_tracksOk h) _ _ hs)
  case setGain => exact judged_state hs (tracksOk_setChannel hs rfl)
  case setPad => exact judged_state hs (tracksOk_setChannel hs rfl)
  case setPhantom => exact judged_state hs (movePhantom_keeps_tracksOk hs (requestPhantom_eff _ _ _))
  case setTrim =>
    exact judged_state hs (tracksOk_reads.kept (settle_frame _)
      (tracksOk_setTrack hs (trackRule_recompute fun h => (hs p (chanArg m)).2.2 h)))
  case setTracking =>
    exact judged_state hs (tracksOk_reads.kept (settle_frame _)
      (foldl_keeps (I := TracksOk) (fun _ _ h => setTrackingOne_keeps_tracksOk h) _ _ hs))
  case phantomReset => exact judged_state hs (resetBank_keeps_tracksOk hs)
  all_goals exact absurd htouch (by decide)

end

/-- A record's period gain is no matter of the rule (R103). -/
theorem endBoundary_keeps_tracksOk {s : State} (hs : TracksOk s) : TracksOk (endBoundary s) := by
  have hperiods : TracksOk (fixPeriods (playOutputs s)) := by
    intro p c
    have ht : (((fixPeriods (playOutputs s)).tracks.get p)[c]'c.2)
        = { ((s.tracks.get p)[c]'c.2) with period := ((s.tracks.get p)[c]'c.2).gain } := by
      simp [fixPeriods, playOutputs]
    have hframe : SameExcept [.outputs, .tracks] s (fixPeriods (playOutputs s)) :=
      (playOutputs_frame s).seq (fixPeriods_frame _)
    have hc : (fixPeriods (playOutputs s)).channels = s.channels := hframe .channels (by decide)
    have ho : (fixPeriods (playOutputs s)).owners = s.owners := hframe .owners (by decide)
    rw [ht, hc, ho]
    exact hs p c
  exact tracksOk_reads.kept (withLatch_frame _ _) (tracksOk_reads.kept (withPhantom_frame _ _) hperiods)

theorem tracksOk_reset (straps sig q) :
    TracksOk (((State.reset.withUnitAddr straps).withSignal sig).withPending q) := by
  intro p c
  have ht : ((State.reset.tracks.get p)[c]'c.2) = Track.atReset := by
    cases p <;> exact Vector.getElem_replicate ..
  have hc : (State.reset.channels[c]'c.2) = Channel.atReset := Vector.getElem_replicate ..
  simp only [State.withPending_fields, State.withSignal_fields, State.withUnitAddr_fields, ht, hc]
  exact ⟨by decide, by decide, fun _ => rfl⟩

/-- The tracking table is reached by claims and releases, trims and tracking flags, and the channels' steps. -/
theorem tracksOk_kept : KeptByOperations TracksOk :=
  keptByOperations_of_touched tracksOk_reads
    (reset := tracksOk_reset)
    (handler := fun _ _ _ _ _ htouch _ hs => handlerOf_keeps_tracksOk hs htouch)
    (countPresence := fun _ _ _ hs => countPresence_keeps_tracksOk hs)
    (captureFrame := fun _ _ _ hs => captureFrame_keeps_tracksOk hs)
    (countMute := fun _ _ _ hs => countMute_keeps_tracksOk hs)
    (readingWork := fun _ _ hs => takeReading_keeps_tracksOk hs)
    (advanceBank := fun _ _ _ hs => advanceBank_keeps_tracksOk hs)
    (endBoundary := fun _ _ hs => endBoundary_keeps_tracksOk hs)

set_option Elab.async false in
/-- Settles O53: E changes only with the anchor rule, an owner only with a rebase, a flag to OFF only after one. -/
theorem stepKeepsTheTrackingTable : Obligations.StepKeepsTheTrackingTable := fun _ _ hs he => tracksOk_kept.step he hs

end Sys2Proof.Safety
end

section
/-! SUPPORT and PROOFS. The channel records and the banks after each operation on them (R74 to R85, R113 to R119), and the
statement that every step keeps head amplifiers, phantom power and banks. -/
namespace Sys2Proof.Safety

open Sys2Proof.Machine

/-! ## What a change of phantom state leaves (R72, R84, R85) -/

theorem feedOn_eq (state : PhState) : feedOn state = (state == .rampUp || state == .on) := by cases state <;> rfl

theorem sendSetting_eq (ch : Channel) : sendSetting ch = { ch with sent := sentSetting ch.gain ch.pad ch.phantom } := by
  rw [sendSetting, feedOn_eq, sentSetting]

@[simp] theorem movePhantom_channels (a c ch s) : (movePhantom a c ch s).channels = vset s.channels c (sendSetting ch) := by
  unfold movePhantom
  dsimp only
  split <;> rfl

theorem movePhantom_phantom (a c ch s) : (movePhantom a c ch s).phantom = s.phantom :=
  movePhantom_frame a c ch s .phantom (by decide)

theorem shedChan_get (s : State) (c d : Chan) :
    ((shedChan s c).channels[d]'d.2) = if d = c then shedChannel (s.channels[c]'c.2) else (s.channels[d]'d.2) := by
  rw [shedChan, movePhantom_channels, vset_get, sendSetting_eq]
  rfl

theorem retryChan_get (s : State) (c d : Chan) :
    ((retryChan s c).channels[d]'d.2) = if d = c then retriedChannel (s.channels[c]'c.2) else (s.channels[d]'d.2) := by
  unfold retryChan retriedChannel
  dsimp only
  by_cases h : (s.channels[c]'c.2).phantom = .shed
  · rw [if_pos h, if_pos (beq_iff_eq.mpr h), movePhantom_channels, vset_get, sendSetting_eq]
  · rw [if_neg h, if_neg (by simpa using h)]
    split
    · rename_i hd
      rw [hd]
    · rfl

theorem mem_bankChans {b : BankId} {c : Chan} : c ∈ bankChans b ↔ c.val / 8 = b.val := by
  simp only [bankChans, chanRange, List.mem_filter, List.mem_finRange, true_and, Bool.and_eq_true, decide_eq_true_eq]
  omega

theorem bankOf_eq_iff {b : BankId} {c : Chan} : bankOf c = b ↔ c.val / 8 = b.val := Fin.ext_iff

theorem chanRange_nodup (first count : Nat) : (chanRange first count).Nodup := (List.nodup_finRange 48).filter _

/-- A shed bank's channels, each shed, and no other channel (R84). -/
theorem shedBank_get (b k s) (d : Chan) :
    ((shedBank b k s).channels[d]'d.2) = if d.val / 8
        = b.val then shedChannel (s.channels[d]'d.2) else (s.channels[d]'d.2) := by
  have h := foldl_read (f := shedChan) (fun s d => (s.channels[d]'d.2)) (fun s d => shedChannel (s.channels[d]'d.2))
    (fun s c => by simpa using shedChan_get s c c) (fun s c d hd => by rw [shedChan_get, if_neg hd])
    (fun s c d hd => by rw [shedChan_get, if_neg hd]) (chanRange_nodup _ _ : (bankChans b).Nodup) (moveBank none b k s) d
  exact h.trans (if_congr mem_bankChans rfl rfl)

/-- A retried bank's channels, each retried, and no other channel (R85). -/
theorem retryBank_get (a b k s) (d : Chan) :
    ((retryBank a b k s).channels[d]'d.2) = if d.val / 8
        = b.val then retriedChannel (s.channels[d]'d.2) else (s.channels[d]'d.2) := by
  have h := foldl_read (f := retryChan) (fun s d => (s.channels[d]'d.2)) (fun s d => retriedChannel (s.channels[d]'d.2))
    (fun s c => by simpa using retryChan_get s c c) (fun s c d hd => by rw [retryChan_get, if_neg hd])
    (fun s c d hd => by rw [retryChan_get, if_neg hd]) (chanRange_nodup _ _ : (bankChans b).Nodup) (moveBank a b k s) d
  exact h.trans (if_congr mem_bankChans rfl rfl)

/-- The phantom block with one bank replaced. -/
def bankWith (b : BankId) (k : Bank) (s : State) : Phantom := { s.phantom with banks := vset s.phantom.banks b k }

set_option Elab.async false in
theorem shedBank_phantom (b k s) : (shedBank b k s).phantom = bankWith b k s := by
  have h : SameExcept [.channels, .journal, .faults] (moveBank none b k s) (shedBank b k s) :=
    (SameExcept.foldl shedChan_frame _ _).seq (settle_frame _)
  exact h .phantom (by decide)

theorem retryBank_phantom (a b k s) : (retryBank a b k s).phantom = bankWith b k s := by
  have h : SameExcept [.channels, .journal, .faults] (moveBank a b k s) (retryBank a b k s) :=
    (SameExcept.foldl retryChan_frame _ _).seq (settle_frame _)
  exact h .phantom (by decide)

/-! ## The rule of one head amplifier -/

/-- The rule of one channel's record (R72, R74, R78, R82). -/
def HeadAmpRule (ch : Channel) : Prop :=
  (10 ≤ ch.gain ∧ ch.gain ≤ 130 ∧ ch.gain % 2 = 0)
    ∧ ch.eff = (if ch.pad then ch.gain - 40 else ch.gain)
    ∧ ch.sent = { gain := ch.gain, pad := ch.pad, feed := ch.phantom == .rampUp || ch.phantom == .on }
    ∧ (∀ st, ch.pending = some st → 10 ≤ st.gain ∧ st.gain ≤ 130 ∧ st.gain % 2 = 0 ∧ st.waited < 60)
    ∧ ch.mute ≤ 1800
    ∧ (ch.phantom = .rampUp ∨ ch.phantom = .rampDown → 0 < ch.mute)
    ∧ (ch.phantom = .on → ch.mute = 0)

theorem headAmpsOk_iff {s : State} : HeadAmpsOk s ↔ ∀ c : Chan, HeadAmpRule (s.channels[c]'c.2) := Iff.rfl

theorem headAmpRule_reset : HeadAmpRule Channel.atReset :=
  ⟨by decide, rfl, rfl, nofun, by decide, by decide, by decide⟩

section
variable {ch : Channel} (h : HeadAmpRule ch)
include h

/-- A phantom record that is sent to the module with its new state. -/
theorem headAmpRule_movePhantom {request : Bool} {state : PhState} {mute : Nat} (hmute : mute ≤ 1800)
    (hramp : state = .rampUp ∨ state = .rampDown → 0 < mute) (hon : state = .on → mute = 0) :
    HeadAmpRule (sendSetting { ch with request := request, phantom := state, mute := mute }) := by
  obtain ⟨hgain, heff, -, hpending, -, -, -⟩ := h
  exact ⟨hgain, heff, by rw [sendSetting, feedOn_eq], hpending, hmute, hramp, hon⟩

/-- A request moves the phantom record by the table of R81. -/
theorem headAmpRule_requestPhantom (bank on) : HeadAmpRule (sendSetting (requestPhantom bank on ch).1) := by
  obtain ⟨-, -, -, -, hmute, hramp, hon⟩ := id h
  unfold requestPhantom
  split
  case h_1 =>
    split
    · exact headAmpRule_movePhantom h hmute (by simp) (by simp)
    · exact headAmpRule_movePhantom h (by simp) (by simp) (by simp)
  case h_2 | h_6 | h_7 => exact headAmpRule_movePhantom h (by simp) (by simp) (by simp)
  case h_8 => exact headAmpRule_movePhantom h hmute (by simp) (by simp)
  all_goals exact headAmpRule_movePhantom h hmute hramp hon

theorem headAmpRule_shed : HeadAmpRule (shedChannel ch) := by
  have hrule := headAmpRule_movePhantom h (request := ch.request) (state := if ch.request then .shed else .off)
    (mute := 1800) (by simp) (by cases ch.request <;> simp) (by cases ch.request <;> simp)
  rwa [sendSetting_eq] at hrule

theorem headAmpRule_retried : HeadAmpRule (retriedChannel ch) := by
  unfold retriedChannel
  split
  · have hrule := headAmpRule_movePhantom h (request := ch.request) (state := .rampUp) (mute := 1800)
      (by simp) (by simp) (by simp)
    rwa [sendSetting_eq] at hrule
  · exact h

/-- A pending step that is legal and has waited fewer than 60 frames. -/
theorem headAmpRule_pending {st : Step} (hlow : 10 ≤ st.gain) (hhigh : st.gain ≤ 130) (heven : st.gain % 2 = 0)
    (hwaited : st.waited < 60) : HeadAmpRule { ch with pending := some st } := by
  obtain ⟨hgain, heff, hsent, -, hmute, hramp, hon⟩ := h
  refine ⟨hgain, heff, hsent, fun st' hst => ?_, hmute, hramp, hon⟩
  cases hst
  exact ⟨hlow, hhigh, heven, hwaited⟩

/-- The step that a request retargets, or makes, is legal as it stands (R76). -/
theorem standingStep_legal : 10 ≤ (standingStep ch).gain ∧ (standingStep ch).gain ≤ 130 ∧ (standingStep ch).gain % 2 = 0
    ∧ (standingStep ch).waited < 60 := by
  obtain ⟨⟨hlow, hhigh, heven⟩, -, -, hpending, -, -, -⟩ := h
  unfold standingStep
  cases hst : ch.pending with
  | none => exact ⟨hlow, hhigh, heven, Nat.zero_lt_succ _⟩
  | some st => exact hpending st hst

/-- A step applied takes its legal target (R79). -/
theorem headAmpRule_applied {st : Step} (hst : ch.pending = some st) :
    HeadAmpRule (sendSetting
      { ch with gain := st.gain, pad := st.pad, eff := effOf st.gain st.pad, pending := none }) := by
  obtain ⟨-, -, -, hpending, hmute, hramp, hon⟩ := h
  obtain ⟨hlow, hhigh, heven, -⟩ := hpending st hst
  exact ⟨⟨hlow, hhigh, heven⟩, rfl, by rw [sendSetting, feedOn_eq], nofun, hmute, hramp, hon⟩

theorem headAmpRule_without : HeadAmpRule { ch with pending := none } := by
  obtain ⟨hgain, heff, hsent, -, hmute, hramp, hon⟩ := h
  exact ⟨hgain, heff, hsent, nofun, hmute, hramp, hon⟩

set_option Elab.async false in
/-- A mute counter that is lowered and does not end a ramp. -/
theorem headAmpRule_counted (hno : ch.phantom = .rampUp ∨ ch.phantom = .rampDown → ch.mute ≠ 1) :
    HeadAmpRule { ch with mute := ch.mute - 1 } := by
  obtain ⟨hgain, heff, hsent, hpending, hmute, hramp, hon⟩ := h
  refine ⟨hgain, heff, hsent, hpending, by simpa using Nat.le_trans hmute (by omega), fun hr => ?_, fun ho => ?_⟩
  · have := hramp hr
    have := hno hr
    show 0 < ch.mute - 1
    omega
  · show ch.mute - 1 = 0
    rw [hon ho]

end

/-! ## The rule of the head amplifiers -/

theorem headAmpsOk_reads : Reads [.channels] HeadAmpsOk := by
  intro s t h hs c
  have hc : t.channels = s.channels := h .channels (by decide)
  rw [hc]
  exact hs c

/-- The rule after an operation that replaced one record. -/
theorem headAmpsOk_vset {s t : State} (hs : HeadAmpsOk s) {c : Chan} {ch : Channel}
    (hchannels : t.channels = vset s.channels c ch) (hch : HeadAmpRule ch) : HeadAmpsOk t := by
  intro d
  change HeadAmpRule (t.channels[d]'d.2)
  rw [hchannels, vset_get]
  split
  · exact hch
  · exact hs d

section
variable {s : State} (hs : HeadAmpsOk s)
include hs

theorem applyStep_keeps_headAmpsOk {c : Chan} {st : Step} (hst : (s.channels[c]'c.2).pending = some st) :
    HeadAmpsOk (applyStep c st s) := by
  unfold applyStep
  dsimp only
  split
  · exact headAmpsOk_vset hs rfl (headAmpRule_without (hs c))
  · refine headAmpsOk_reads.kept (settle_frame _) (headAmpsOk_reads.kept (appendEntry_frame _ _ _ _ _)
      (headAmpsOk_reads.kept (anchorRule_frame _ _) ?_))
    exact headAmpsOk_vset hs rfl (headAmpRule_applied (hs c) hst)

theorem advanceStep_keeps_headAmpsOk {c : Chan} {f : SampleFrame} : HeadAmpsOk (advanceStep c f s) := by
  unfold advanceStep
  dsimp only
  split
  · exact hs
  · rename_i st hst
    split
    · exact applyStep_keeps_headAmpsOk hs hst
    · rename_i hwait
      obtain ⟨-, -, -, hpending, -, -, -⟩ := hs c
      obtain ⟨hlow, hhigh, heven, -⟩ := hpending st hst
      refine headAmpsOk_vset hs rfl (headAmpRule_pending (hs c) hlow hhigh heven ?_)
      simp only [Bool.or_eq_true, decide_eq_true_eq, not_or] at hwait
      exact Nat.lt_of_not_le hwait.2

theorem captureFrame_keeps_headAmpsOk {c : Chan} : HeadAmpsOk (captureFrame c s) := by
  have hmeters : HeadAmpsOk (ports.foldl
      (fun u p => setMeter p c (meterFrame (s.latch.captured[c]'c.2) ((u.meters.get p)[c]'c.2)) u) s) := hs
  have hstep := advanceStep_keeps_headAmpsOk hmeters (c := c) (f := (s.latch.captured[c]'c.2))
  exact headAmpsOk_vset hstep rfl (hstep c)

theorem countMute_keeps_headAmpsOk {c : Chan} : HeadAmpsOk (countMute c s) := by
  have hcounted (hno : (s.channels[c]'c.2).phantom = .rampUp ∨ (s.channels[c]'c.2).phantom = .rampDown
      → (s.channels[c]'c.2).mute ≠ 1) :
      HeadAmpsOk (setChannel c { (s.channels[c]'c.2) with mute := (s.channels[c]'c.2).mute - 1 } s) :=
    headAmpsOk_vset hs rfl (headAmpRule_counted (hs c) hno)
  unfold countMute
  dsimp only
  split
  · exact hs
  · split
    · rename_i hzero
      split
      case h_1 =>
        exact headAmpsOk_vset hs (movePhantom_channels _ _ _ _)
          (headAmpRule_movePhantom (hs c) (by omega) (by simp) (fun _ => hzero))
      case h_2 =>
        exact headAmpsOk_vset hs (movePhantom_channels _ _ _ _)
          (headAmpRule_movePhantom (hs c) (by omega) (by simp) (by simp))
      all_goals
        rename_i hstate
        exact hcounted (by rw [hstate]; rintro (h | h) <;> cases h)
    · exact hcounted fun _ => by omega

theorem shedBank_keeps_headAmpsOk {b : BankId} {k : Bank} : HeadAmpsOk (shedBank b k s) := by
  intro c
  change HeadAmpRule _
  rw [shedBank_get]
  split
  · exact headAmpRule_shed (hs c)
  · exact hs c

theorem retryBank_keeps_headAmpsOk {a : Option Port} {b : BankId} {k : Bank} : HeadAmpsOk (retryBank a b k s) := by
  intro c
  change HeadAmpRule _
  rw [retryBank_get]
  split
  · exact headAmpRule_retried (hs c)
  · exact hs c

theorem takeReading_keeps_headAmpsOk {b : BankId} {n : Nat} : HeadAmpsOk (takeReading b n s) := by
  have hshed {k : Bank} : HeadAmpsOk (holdTimer b (shedBank b k s)) :=
    headAmpsOk_reads.kept (holdTimer_frame _ _) (shedBank_keeps_headAmpsOk hs)
  unfold takeReading
  dsimp only
  split
  · split
    · exact hshed
    · split <;> exact hshed
    · exact hs
    · exact hs
  · exact hs

theorem advanceBank_keeps_headAmpsOk {b : BankId} : HeadAmpsOk (advanceBank b s) := by
  unfold advanceBank endHoldoff
  dsimp only
  split
  · split
    · split
      · exact retryBank_keeps_headAmpsOk hs
      · exact hs
    · exact hs
  · split <;> exact hs
  · exact hs
  · exact hs

theorem resetBank_keeps_headAmpsOk {p : Port} {b : BankId} : HeadAmpsOk (resetBank p b s) := by
  unfold resetBank
  dsimp only
  split
  case h_3 | h_4 => exact hs
  all_goals exact retryBank_keeps_headAmpsOk hs

set_option Elab.async false in
theorem handlerOf_keeps_headAmpsOk {before k p m} (htouch : Touches [.channels] (handlerBlocks k)) :
    HeadAmpsOk (handlerOf before k p m s).state := by
  cases k
  case setGain =>
    refine judged_state hs (headAmpsOk_vset hs rfl ?_)
    obtain ⟨-, -, -, hwaited⟩ := standingStep_legal (hs (chanArg m))
    have hrange : 10 ≤ clampTo 10 130 (signedOf 16 (bodyWord m 0)) ∧ clampTo 10 130 (signedOf 16 (bodyWord m 0)) ≤ 130 := by
      unfold clampTo
      omega
    exact headAmpRule_pending (hs _) (by dsimp only; omega) (by dsimp only; omega) (by dsimp only; omega) hwaited
  case setPad =>
    obtain ⟨hlow, hhigh, heven, hwaited⟩ := standingStep_legal (hs (chanArg m))
    exact judged_state hs (headAmpsOk_vset hs rfl (headAmpRule_pending (hs _) hlow hhigh heven hwaited))
  case setPhantom =>
    exact judged_state hs (headAmpsOk_vset hs (movePhantom_channels _ _ _ _) (headAmpRule_requestPhantom (hs _) _ _))
  case phantomReset => exact judged_state hs (resetBank_keeps_headAmpsOk hs)
  all_goals exact absurd htouch (by decide)

end

theorem channels_reset (straps sig q) (c : Chan) :
    ((((State.reset.withUnitAddr straps).withSignal sig).withPending q).channels[c]'c.2) = Channel.atReset :=
  Vector.getElem_replicate ..

/-- A channel's record is written with a legal setting that is sent in the same operation. -/
theorem headAmpsOk_kept : KeptByOperations HeadAmpsOk :=
  keptByOperations_of_touched headAmpsOk_reads
    (reset := fun straps sig q c => by rw [channels_reset]; exact headAmpRule_reset)
    (handler := fun _ _ _ _ _ htouch _ hs => handlerOf_keeps_headAmpsOk hs htouch)
    (captureFrame := fun _ _ _ hs => captureFrame_keeps_headAmpsOk hs)
    (countMute := fun _ _ _ hs => countMute_keeps_headAmpsOk hs)
    (readingWork := fun _ _ hs => takeReading_keeps_headAmpsOk hs)
    (advanceBank := fun _ _ _ hs => advanceBank_keeps_headAmpsOk hs)

end Sys2Proof.Safety
end

section
/-! SUPPORT and PROOFS. The phantom states of the channels beside the states of their banks (R81, R84, R85, R113 to R118),
and the statement about head amplifiers, phantom power and banks. -/
namespace Sys2Proof.Safety

open Sys2Proof.Machine

/-! ## The rules of one channel and of one bank -/

/-- The rule of one channel's phantom state while its bank is in a state (R81, R115, R118). -/
def PhantomRule (bank : BankState) (ch : Channel) : Prop :=
  (ch.phantom = .rampUp ∨ ch.phantom = .on → ch.request = true ∧ (bank = .normal ∨ bank = .retry))
    ∧ (ch.phantom = .shed → ch.request = true)
    ∧ (bank = .holdoff ∨ bank = .lockedOut → ch.phantom = .off ∨ ch.phantom = .shed)

/-- The rule of one bank (R113, R114). -/
def BankRule (k : Bank) : Prop :=
  k.last < 1024 ∧ match k.state with
    | .normal => k.trips = 0 ∧ k.timer = 0
    | .holdoff => 1 ≤ k.trips ∧ k.trips ≤ 2 ∧ 1 ≤ k.timer ∧ k.timer ≤ 12000
    | .retry => k.trips ≤ 2 ∧ k.timer < 60000
    | .lockedOut => k.trips = 3 ∧ k.timer = 0

theorem phantomOk_iff {s : State} :
    PhantomOk s ↔ ∀ c : Chan, PhantomRule (s.phantom.banks[bankOf c]'(bankOf c).2).state (s.channels[c]'c.2) := Iff.rfl

theorem banksOk_iff {s : State} : BanksOk s ↔ ∀ b : BankId, BankRule (s.phantom.banks[b]'b.2) := Iff.rfl

section
variable {k : Bank} (hlast : k.last < 1024)
include hlast

theorem bankRule_normal (h : k.state = .normal) (htrips : k.trips = 0) (htimer : k.timer = 0) : BankRule k := by
  rw [BankRule, h]
  exact ⟨hlast, htrips, htimer⟩

theorem bankRule_holdoff (h : k.state = .holdoff) (hlow : 1 ≤ k.trips) (hhigh : k.trips ≤ 2) (htimer : 1 ≤ k.timer)
    (htop : k.timer ≤ 12000) : BankRule k := by
  rw [BankRule, h]
  exact ⟨hlast, hlow, hhigh, htimer, htop⟩

theorem bankRule_retry (h : k.state = .retry) (htrips : k.trips ≤ 2) (htimer : k.timer < 60000) : BankRule k := by
  rw [BankRule, h]
  exact ⟨hlast, htrips, htimer⟩

theorem bankRule_lockedOut (h : k.state = .lockedOut) (htrips : k.trips = 3) (htimer : k.timer = 0) : BankRule k := by
  rw [BankRule, h]
  exact ⟨hlast, htrips, htimer⟩

end

/-- A bank in HOLDOFF or LOCKED_OUT holds its feeds off. -/
def Held (bank : BankState) : Prop := bank = .holdoff ∨ bank = .lockedOut

theorem bankHeldOff_iff {bank : BankState} : bankHeldOff bank = true ↔ Held bank := by
  cases bank <;> simp [bankHeldOff, Held]

theorem not_held_iff {bank : BankState} : ¬ Held bank ↔ bank = .normal ∨ bank = .retry := by
  cases bank <;> simp [Held]

/-- A record that is OFF meets the rule of every bank. -/
theorem phantomRule_off {bank : BankState} {ch : Channel} (h : ch.phantom = .off) : PhantomRule bank ch := by
  rw [PhantomRule, h]
  simp

set_option Elab.async false in
/-- A shed channel meets the rule of a bank that is held (R84). -/
theorem phantomRule_shed (bank : BankState) (ch : Channel) : PhantomRule bank (shedChannel ch) := by
  cases h : ch.request
  · exact phantomRule_off (by simp [shedChannel, h])
  · have hp : (shedChannel ch).phantom = .shed := by simp [shedChannel, h]
    rw [PhantomRule, hp]
    exact ⟨by simp, fun _ => h, fun _ => .inr rfl⟩

/-- A channel of a bank that was held meets, retried, the rule of RETRY (R85). -/
theorem phantomRule_retried {bank : BankState} {ch : Channel} (hheld : Held bank) (h : PhantomRule bank ch) :
    PhantomRule .retry (retriedChannel ch) := by
  obtain ⟨-, hshed, hoff⟩ := h
  rcases hoff hheld with hoff | hoff
  · exact phantomRule_off (by simp [retriedChannel, hoff])
  · have hp : (retriedChannel ch).phantom = .rampUp := by simp [retriedChannel, hoff]
    have hr : (retriedChannel ch).request = ch.request := by simp [retriedChannel, hoff]
    rw [PhantomRule, hp, hr]
    exact ⟨fun _ => ⟨hshed hoff, .inr rfl⟩, by simp, by simp⟩

/-- The request's table keeps the rule of the channel's bank (R81). -/
theorem phantomRule_request {bank : BankState} {on : Bool} {ch : Channel} (h : PhantomRule bank ch) :
    PhantomRule bank (requestPhantom bank on ch).1 := by
  obtain ⟨hfeed, hshed, hoff⟩ := h
  unfold requestPhantom
  split
  case h_1 =>
    split
    · exact ⟨by simp, fun _ => rfl, fun _ => .inr rfl⟩
    · rename_i hheld
      rw [bankHeldOff_iff] at hheld
      exact ⟨fun _ => ⟨rfl, not_held_iff.mp hheld⟩, by simp, fun hh => absurd hh hheld⟩
  case h_2 hstate =>
    have hheld : ¬ Held bank := fun hh => by simp [hstate] at hoff; exact absurd hh (not_or.mpr hoff)
    exact ⟨fun _ => ⟨rfl, not_held_iff.mp hheld⟩, by simp, fun hh => absurd hh hheld⟩
  case h_3 hstate => exact ⟨fun _ => ⟨rfl, (hfeed (.inl hstate)).2⟩, fun _ => rfl, hoff⟩
  case h_4 hstate => exact ⟨fun _ => ⟨rfl, (hfeed (.inr hstate)).2⟩, fun _ => rfl, hoff⟩
  case h_5 hstate => exact ⟨fun hh => absurd hh (by simp [hstate]), fun _ => rfl, hoff⟩
  case h_6 hstate =>
    have hheld : ¬ Held bank := not_held_iff.mpr (hfeed (.inl hstate)).2
    exact ⟨by simp, by simp, fun hh => absurd hh hheld⟩
  case h_7 hstate =>
    have hheld : ¬ Held bank := not_held_iff.mpr (hfeed (.inr hstate)).2
    exact ⟨by simp, by simp, fun hh => absurd hh hheld⟩
  case h_8 => exact phantomRule_off rfl
  case h_9 hstate => exact phantomRule_off hstate
  case h_10 hstate =>
    refine ⟨fun hh => absurd hh (by simp [hstate]), fun hh => absurd (hstate.symm.trans hh) (by simp), hoff⟩

/-! ## The rule of phantom power and banks -/

/-- The two rules together: neither is kept without the other. -/
def PhantomAndBanksOk (s : State) : Prop := PhantomOk s ∧ BanksOk s

theorem phantomAndBanksOk_reads : Reads [.channels, .phantom] PhantomAndBanksOk := by
  intro s t h hs
  have hc : t.channels = s.channels := h .channels (by decide)
  have hp : t.phantom = s.phantom := h .phantom (by decide)
  unfold PhantomAndBanksOk PhantomOk BanksOk at *
  rw [hc, hp]
  exact hs

/-- One channel's record replaced. -/
theorem phantomAndBanksOk_vset {s t : State} (hs : PhantomAndBanksOk s) {c : Chan} {ch : Channel}
    (hchannels : t.channels = vset s.channels c ch) (hphantom : t.phantom = s.phantom)
    (hch : PhantomRule (s.phantom.banks[bankOf c]'(bankOf c).2).state ch) : PhantomAndBanksOk t := by
  obtain ⟨hphantoms, hbanks⟩ := hs
  refine ⟨fun d => ?_, by unfold BanksOk; rw [hphantom]; exact hbanks⟩
  change PhantomRule _ (t.channels[d]'d.2)
  rw [hchannels, hphantom, vset_get]
  split
  · rename_i hd
    rw [hd]
    exact hch
  · exact hphantoms d

/-- One bank replaced, and its channels with it: they have to meet the rule of its new state. -/
theorem phantomAndBanksOk_bank {s t : State} (hs : PhantomAndBanksOk s) {b : BankId} {k : Bank} {f : Channel → Channel}
    (hphantom : t.phantom.banks = vset s.phantom.banks b k) (hk : BankRule k)
    (hchannels : ∀ c : Chan, (t.channels[c]'c.2) = if c.val / 8 = b.val then f (s.channels[c]'c.2) else (s.channels[c]'c.2))
    (hch : ∀ c : Chan, PhantomRule (s.phantom.banks[b]'b.2).state (s.channels[c]'c.2)
        → PhantomRule k.state (f (s.channels[c]'c.2))) :
    PhantomAndBanksOk t := by
  obtain ⟨hphantoms, hbanks⟩ := hs
  refine ⟨fun c => ?_, fun b' => ?_⟩
  · change PhantomRule (t.phantom.banks[bankOf c]'(bankOf c).2).state (t.channels[c]'c.2)
    rw [hchannels, hphantom, vset_get]
    by_cases hb : bankOf c = b
    · rw [if_pos hb, if_pos (bankOf_eq_iff.mp hb)]
      exact hch c (hb ▸ hphantoms c)
    · rw [if_neg hb, if_neg fun h => hb (bankOf_eq_iff.mpr h)]
      exact hphantoms c
  · change BankRule (t.phantom.banks[b']'b'.2)
    rw [hphantom, vset_get]
    split
    · exact hk
    · exact hbanks b'

section
variable {s : State} (hs : PhantomAndBanksOk s)
include hs

/-- A bank replaced whose channels are left: the rule of the new state is no stronger. -/
theorem setBank_keeps_phantomAndBanksOk {b : BankId} {k : Bank} (hk : BankRule k)
    (hstate : ∀ ch, PhantomRule (s.phantom.banks[b]'b.2).state ch → PhantomRule k.state ch) :
    PhantomAndBanksOk (setBank b k s) :=
  phantomAndBanksOk_bank hs rfl hk (f := id) (fun c => by simp [setBank]) fun _ => hstate _

theorem shedBank_keeps_phantomAndBanksOk {b : BankId} {k : Bank} (hk : BankRule k) :
    PhantomAndBanksOk (shedBank b k s) :=
  phantomAndBanksOk_bank hs (congrArg Phantom.banks (shedBank_phantom b k s)) hk (shedBank_get b k s)
    fun _ _ => phantomRule_shed _ _

theorem retryBank_keeps_phantomAndBanksOk {a : Option Port} {b : BankId} {k : Bank} (hk : BankRule k)
    (hheld : Held (s.phantom.banks[b]'b.2).state) (hretry : k.state = .retry) : PhantomAndBanksOk (retryBank a b k s) :=
  phantomAndBanksOk_bank hs (congrArg Phantom.banks (retryBank_phantom a b k s)) hk (retryBank_get a b k s)
    fun _ h => hretry ▸ phantomRule_retried hheld h

theorem takeReading_keeps_phantomAndBanksOk {b : BankId} {n : Nat} (hn : n < 1024) :
    PhantomAndBanksOk (takeReading b n s) := by
  have hrule : BankRule (s.phantom.banks[b]'b.2) := hs.2 b
  have hshed {k : Bank} (hk : BankRule k) : PhantomAndBanksOk (holdTimer b (shedBank b k s)) :=
    phantomAndBanksOk_reads.kept (holdTimer_frame _ _) (shedBank_keeps_phantomAndBanksOk hs hk)
  have hset : PhantomAndBanksOk (setBank b { (s.phantom.banks[b]'b.2) with last := n } s) :=
    setBank_keeps_phantomAndBanksOk hs ⟨hn, hrule.2⟩ fun _ => id
  obtain ⟨-, hstate⟩ := hrule
  unfold takeReading
  dsimp only
  split
  · split
    · exact hshed (bankRule_holdoff hn rfl (Nat.le_refl 1) (Nat.le_succ 1) (by simp) (Nat.le_refl _))
    · rename_i hretry
      rw [hretry] at hstate
      obtain ⟨htrips, -⟩ := hstate
      split
      · rename_i hthird
        exact hshed (bankRule_lockedOut hn rfl (by dsimp only; omega) rfl)
      · exact hshed (bankRule_holdoff hn rfl (by simp) (by dsimp only; omega) (by simp) (Nat.le_refl _))
    · exact hset
    · exact hset
  · exact hset

theorem advanceBank_keeps_phantomAndBanksOk {b : BankId} : PhantomAndBanksOk (advanceBank b s) := by
  obtain ⟨hlast, hstate⟩ : BankRule (s.phantom.banks[b]'b.2) := hs.2 b
  unfold advanceBank endHoldoff endWatch
  dsimp only
  split
  · rename_i hholdoff
    rw [hholdoff] at hstate
    obtain ⟨hlow, htrips, htimer, htop⟩ := hstate
    have hset {n : Nat} (h1 : 1 ≤ n) (h2 : n ≤ 12000) :
        PhantomAndBanksOk (setBank b { (s.phantom.banks[b]'b.2) with timer := n } s) :=
      setBank_keeps_phantomAndBanksOk hs (bankRule_holdoff hlast hholdoff hlow htrips h1 h2) fun _ => id
    split
    · split
      · exact retryBank_keeps_phantomAndBanksOk hs (bankRule_retry hlast rfl htrips (by simp)) (.inl hholdoff) rfl
      · exact hset (by decide) (by decide)
    · exact hset (by omega) (by omega)
  · rename_i hretry
    rw [hretry] at hstate
    obtain ⟨htrips, htimer⟩ := hstate
    split
    · refine phantomAndBanksOk_reads.kept (settle_frame _)
        (phantomAndBanksOk_reads.kept (appendEntry_frame _ _ _ _ _)
          (setBank_keeps_phantomAndBanksOk hs (bankRule_normal hlast rfl rfl rfl) fun ch h => ?_))
      rw [hretry] at h
      exact ⟨fun hh => ⟨(h.1 hh).1, .inl rfl⟩, h.2.1, by simp⟩
    · exact setBank_keeps_phantomAndBanksOk hs (bankRule_retry hlast hretry htrips (by dsimp only; omega)) fun _ => id
  · exact hs
  · exact hs

theorem resetBank_keeps_phantomAndBanksOk {p : Port} {b : BankId} : PhantomAndBanksOk (resetBank p b s) := by
  have hlast : (s.phantom.banks[b]'b.2).last < 1024 := (hs.2 b).1
  unfold resetBank
  dsimp only
  split
  case h_1 hstate => exact retryBank_keeps_phantomAndBanksOk hs (bankRule_retry hlast rfl (by simp) (by simp)) (.inl hstate) rfl
  case h_2 hstate => exact retryBank_keeps_phantomAndBanksOk hs (bankRule_retry hlast rfl (by simp) (by simp)) (.inr hstate) rfl
  all_goals exact hs

set_option Elab.async false in
/-- A step that is applied leaves the phantom record. -/
theorem advanceStep_keeps_phantomAndBanksOk {c : Chan} {f : SampleFrame} : PhantomAndBanksOk (advanceStep c f s) := by
  have hset (ch : Channel) (hp : ch.phantom = (s.channels[c]'c.2).phantom) (hr : ch.request = (s.channels[c]'c.2).request) :
      PhantomAndBanksOk (setChannel c ch s) := by
    refine phantomAndBanksOk_vset hs rfl rfl ?_
    unfold PhantomRule
    rw [hp, hr]
    exact hs.1 c
  unfold advanceStep applyStep
  dsimp only
  split
  · exact hs
  · split
    · split
      · exact hset _ rfl rfl
      · refine phantomAndBanksOk_reads.kept (settle_frame _)
          (phantomAndBanksOk_reads.kept (appendEntry_frame _ _ _ _ _)
            (phantomAndBanksOk_reads.kept (anchorRule_frame _ _) ?_))
        exact hset _ rfl rfl
    · exact hset _ rfl rfl

theorem captureFrame_keeps_phantomAndBanksOk {c : Chan} : PhantomAndBanksOk (captureFrame c s) := by
  have hmeters : PhantomAndBanksOk (ports.foldl
      (fun u p => setMeter p c (meterFrame (s.latch.captured[c]'c.2) ((u.meters.get p)[c]'c.2)) u) s) := hs
  have hstep := advanceStep_keeps_phantomAndBanksOk hmeters (c := c) (f := (s.latch.captured[c]'c.2))
  exact phantomAndBanksOk_vset hstep rfl rfl (hstep.1 c)

theorem countMute_keeps_phantomAndBanksOk {c : Chan} : PhantomAndBanksOk (countMute c s) := by
  obtain ⟨hfeed, hshed, hoff⟩ : PhantomRule (s.phantom.banks[bankOf c]'(bankOf c).2).state (s.channels[c]'c.2) := hs.1 c
  have hset {n : Nat} : PhantomAndBanksOk (setChannel c { (s.channels[c]'c.2) with mute := n } s) :=
    phantomAndBanksOk_vset hs rfl rfl ⟨hfeed, hshed, hoff⟩
  unfold countMute
  dsimp only
  split
  · exact hs
  · split
    · split
      case h_1 hstate =>
        have hup := hfeed (.inl hstate)
        refine phantomAndBanksOk_vset hs (movePhantom_channels _ _ _ _) (movePhantom_phantom _ _ _ _) ?_
        exact ⟨fun _ => hup, by simp [sendSetting], fun hheld => absurd hheld (not_held_iff.mpr hup.2)⟩
      case h_2 =>
        exact phantomAndBanksOk_vset hs (movePhantom_channels _ _ _ _) (movePhantom_phantom _ _ _ _)
          (phantomRule_off rfl)
      all_goals exact hset
    · exact hset

theorem handlerOf_keeps_phantomAndBanksOk {before k p m} (htouch : Touches [.channels, .phantom] (handlerBlocks k)) :
    PhantomAndBanksOk (handlerOf before k p m s).state := by
  cases k
  case setGain => exact judged_state hs (phantomAndBanksOk_vset hs rfl rfl (hs.1 (chanArg m)))
  case setPad => exact judged_state hs (phantomAndBanksOk_vset hs rfl rfl (hs.1 (chanArg m)))
  case setPhantom =>
    exact judged_state hs (phantomAndBanksOk_vset hs (movePhantom_channels _ _ _ _) (movePhantom_phantom _ _ _ _)
      (phantomRule_request (hs.1 (chanArg m))))
  case phantomReset => exact judged_state hs (resetBank_keeps_phantomAndBanksOk hs)
  all_goals exact absurd htouch (by decide)

end

/-- The end of a boundary begins the next bank's conversion and leaves the banks (R111). -/
theorem endBoundary_phantom (s : State) : (endBoundary s).phantom = { s.phantom with scan := s.phantom.scan + 1 } := by
  have hframe : SameExcept [.outputs, .tracks] s (fixPeriods (playOutputs s)) :=
    (playOutputs_frame s).seq (fixPeriods_frame _)
  have hp : (fixPeriods (playOutputs s)).phantom = s.phantom := hframe .phantom (by decide)
  simp only [endBoundary, State.withLatch_fields, State.withPhantom_fields, hp]

theorem endBoundary_keeps_phantomAndBanksOk {s : State} (hs : PhantomAndBanksOk s) :
    PhantomAndBanksOk (endBoundary s) := by
  have hc : (endBoundary s).channels = s.channels := endBoundary_frame s .channels (by decide)
  unfold PhantomAndBanksOk PhantomOk BanksOk at *
  rw [hc, endBoundary_phantom]
  exact hs

theorem phantomAndBanksOk_reset (straps sig q) :
    PhantomAndBanksOk (((State.reset.withUnitAddr straps).withSignal sig).withPending q) := by
  refine ⟨fun c => ?_, fun b => ?_⟩
  · rw [channels_reset]
    exact phantomRule_off rfl
  · have hb : ((((State.reset.withUnitAddr straps).withSignal sig).withPending q).phantom.banks[b]'b.2)
        = { state := .normal, trips := 0, last := 0, timer := 0 } := Vector.getElem_replicate ..
    rw [hb]
    exact bankRule_normal (by decide) rfl rfl rfl

/-- A feed goes on with its bank in NORMAL or RETRY alone, and a bank that is held takes its feeds off. -/
theorem phantomAndBanksOk_kept : KeptByOperations PhantomAndBanksOk :=
  keptByOperations_of_touched phantomAndBanksOk_reads
    (reset := phantomAndBanksOk_reset)
    (handler := fun _ _ _ _ _ htouch _ hs => handlerOf_keeps_phantomAndBanksOk hs htouch)
    (captureFrame := fun _ _ _ hs => captureFrame_keeps_phantomAndBanksOk hs)
    (countMute := fun _ _ _ hs => countMute_keeps_phantomAndBanksOk hs)
    (readingWork := fun _ s hs => takeReading_keeps_phantomAndBanksOk hs s.latch.rail.isLt)
    (advanceBank := fun _ _ _ hs => advanceBank_keeps_phantomAndBanksOk hs)
    (endBoundary := fun _ _ hs => endBoundary_keeps_phantomAndBanksOk hs)

/-- Settles O54: the channels' rule is kept record by record, the phantom states' with the states of the banks. -/
theorem stepKeepsHeadAmplifiersPhantomPowerAndBanks : Obligations.StepKeepsHeadAmplifiersPhantomPowerAndBanks :=
  ⟨fun _ _ hs he => headAmpsOk_kept.step he hs, fun _ _ hs he => phantomAndBanksOk_kept.step he hs⟩

end Sys2Proof.Safety
end

section
/-! SUPPORT and PROOFS. The output records after each operation on them (R139, R142 to R146, R149, R153, R154), and the
statement that every step keeps the outputs. -/
namespace Sys2Proof.Safety

open Sys2Proof.Machine

/-! ## One output's rules -/

/-- What `OutputsOk` asks of one output. -/
def SelectionRule (o : Output) : Prop :=
  (o.primary = none → o.sel = .silent ∧ o.failed = false)
  ∧ (o.primary ≠ none → (o.sel = .primary ↔ o.failed = false))
  ∧ (o.sel = .backup → o.action = .backup)
  ∧ (o.failed = true → o.action ≠ .hold ∧ 1 ≤ o.holdoff ∧ o.holdoff ≤ 12000)
  ∧ (o.failed = false → o.holdoff = 0)

/-- What `WeightsOk` asks of one output. -/
def WeightRule (o : Output) : Prop := o.wp + o.wb ≤ 480 ∧ o.duck ≤ 480

/-- The rules of one output. -/
def OutputRule (o : Output) : Prop := SelectionRule o ∧ WeightRule o

/-- The statement's two rules together. -/
def OutputRules (s : State) : Prop := OutputsOk s ∧ WeightsOk s

theorem outputRules_iff {s : State} : OutputRules s ↔ ∀ i : OutId, OutputRule (s.outputs[i]'i.2) :=
  ⟨fun h i => ⟨h.1 i, h.2 i⟩, fun h => ⟨fun i => (h i).1, fun i => (h i).2⟩⟩

theorem outputRules_reads : Reads [.outputs] OutputRules := by
  intro s t h hs
  have ho : t.outputs = s.outputs := h .outputs (by decide)
  rw [outputRules_iff] at hs ⊢
  rwa [ho]

theorem available_none (s : State) : available s none = false := rfl

set_option Elab.async false in
theorem primary_of_available {s : State} {src : Option Source} (h : available s src = true) : src ≠ none := by
  rintro rfl
  exact Bool.noConfusion h

/-- An output that fails over is under the rule where its selection agrees with its action. -/
theorem selectionRule_failed {o : Output} (hprimary : o.primary ≠ none) (haction : o.action ≠ .hold)
    {sel : Selection} (hsel : sel ≠ .primary) (hbackup : sel = .backup → o.action = .backup) {failed : Bool}
    (hfailed : failed = true) : SelectionRule { o with sel := sel, failed := failed, holdoff := 12000 } :=
  ⟨fun h => absurd h hprimary, fun _ => by simp [hsel, hfailed], hbackup, fun _ => ⟨haction, by simp, by simp⟩,
    by simp [hfailed]⟩

/-- An output on its primary, its flag clear. -/
theorem selectionRule_primary {o : Output} (hprimary : o.primary ≠ none) :
    SelectionRule { o with sel := .primary, failed := false, holdoff := 0 } :=
  ⟨fun h => absurd h hprimary, fun _ => by simp, by simp, by simp, fun _ => rfl⟩

/-- An output whose flag is set keeps the rule with another selection that is not PRIMARY. -/
theorem selectionRule_sel {o : Output} (h : SelectionRule o) (hfailed : o.failed = true) {sel : Selection}
    (hsel : sel ≠ .primary) (hbackup : sel = .backup → o.action = .backup) : SelectionRule { o with sel := sel } := by
  obtain ⟨hnone, -, -, htimer, -⟩ := h
  have hprimary : o.primary ≠ none := fun hp => by simp [hnone hp] at hfailed
  exact ⟨fun hp => absurd hp hprimary, fun _ => by simp [hsel, hfailed], hbackup, htimer, by simp [hfailed]⟩

theorem failed_of_sel {o : Output} (h : SelectionRule o) (hprimary : o.primary ≠ none) (hsel : o.sel ≠ .primary) :
    o.failed = true := by
  obtain ⟨-, hiff, -⟩ := h
  simpa [hsel] using hiff hprimary

/-! ## The sources' changes -/

theorem losePrimary_keeps_rule {o : Output} {backup : Bool} (h : SelectionRule o) (hprimary : o.primary ≠ none) :
    SelectionRule (losePrimary backup o) := by
  have hbackup := h.2.2.1
  unfold losePrimary
  split
  · rename_i hsel haction
    exact selectionRule_failed hprimary (by simp [haction]) (by simp) (by simp) rfl
  · rename_i hsel haction
    exact selectionRule_failed hprimary (by simp [haction]) (by split <;> simp) (fun _ => haction) rfl
  · rename_i hsel haction
    have := selectionRule_primary hprimary
    rwa [← hsel] at this
  · rename_i hsel
    have haction : o.action = .backup := hbackup hsel
    have := selectionRule_failed hprimary (by simp [haction]) (sel := .backup) (by simp) (fun _ => haction) rfl
    rwa [← hsel] at this
  · rename_i action hsel haction
    split
    · rename_i hfailed
      have hhold : o.action ≠ .hold := (h.2.2.2.1 hfailed).1
      exact selectionRule_failed hprimary hhold (by split <;> simp)
        (fun hb => by
          by_contra hne
          simp [hne] at hb) hfailed
    · exact h

theorem loseBackup_keeps_rule {o : Output} (h : SelectionRule o) : SelectionRule (loseBackup o) := by
  unfold loseBackup
  split
  · rename_i hsel
    have hsel : o.sel = .backup := by simpa using hsel
    have hprimary : o.primary ≠ none := fun hp => by simp [h.1 hp] at hsel
    exact selectionRule_sel h (failed_of_sel h hprimary (by simp [hsel])) (by simp) (by simp)
  · exact h

theorem gainBackup_keeps_rule {o : Output} {primary : Bool} (h : SelectionRule o) :
    SelectionRule (gainBackup primary o) := by
  unfold gainBackup
  split
  · rename_i hgain
    simp only [Bool.and_eq_true, beq_iff_eq, Bool.not_eq_true'] at hgain
    obtain ⟨⟨⟨-, hfailed⟩, haction⟩, -⟩ := hgain
    exact selectionRule_sel h hfailed (by simp) fun _ => haction
  · exact h

theorem followOutput_keeps_rule {old s : State} {o : Output} (h : SelectionRule o) :
    SelectionRule (followOutput old s o) := by
  unfold followOutput
  dsimp only
  have h1 : SelectionRule
      (if available old o.primary && !available s o.primary then losePrimary (available s o.backup) o else o) := by
    split
    · rename_i hlost
      exact losePrimary_keeps_rule h (primary_of_available (Bool.and_eq_true_iff.mp hlost).1)
    · exact h
  split
  · exact loseBackup_keeps_rule h1
  · split
    · exact gainBackup_keeps_rule h1
    · exact h1

/-- An output as its sources' changes leave it has the weights it had. -/
theorem losePrimary_weights (backup : Bool) (o : Output) :
    (losePrimary backup o).wp = o.wp ∧ (losePrimary backup o).wb = o.wb ∧ (losePrimary backup o).duck = o.duck := by
  unfold losePrimary
  split
  case h_5 => split <;> exact ⟨rfl, rfl, rfl⟩
  all_goals exact ⟨rfl, rfl, rfl⟩

theorem loseBackup_weights (o : Output) :
    (loseBackup o).wp = o.wp ∧ (loseBackup o).wb = o.wb ∧ (loseBackup o).duck = o.duck := by
  unfold loseBackup
  split <;> exact ⟨rfl, rfl, rfl⟩

theorem gainBackup_weights (primary : Bool) (o : Output) :
    (gainBackup primary o).wp = o.wp ∧ (gainBackup primary o).wb = o.wb ∧ (gainBackup primary o).duck = o.duck := by
  unfold gainBackup
  split <;> exact ⟨rfl, rfl, rfl⟩

set_option Elab.async false in
theorem followOutput_weights (old s : State) (o : Output) :
    (followOutput old s o).wp = o.wp ∧ (followOutput old s o).wb = o.wb ∧ (followOutput old s o).duck = o.duck := by
  unfold followOutput
  dsimp only
  have h1 : ∀ o1, o1 = (if available old o.primary && !available s o.primary then
        losePrimary (available s o.backup) o else o) → o1.wp = o.wp ∧ o1.wb = o.wb ∧ o1.duck = o.duck := by
    rintro o1 rfl
    split
    · exact losePrimary_weights _ _
    · exact ⟨rfl, rfl, rfl⟩
  obtain ⟨hwp, hwb, hduck⟩ := h1 _ rfl
  split
  · obtain ⟨h1, h2, h3⟩ := loseBackup_weights
      (if available old o.primary && !available s o.primary then losePrimary (available s o.backup) o else o)
    exact ⟨h1.trans hwp, h2.trans hwb, h3.trans hduck⟩
  · split
    · obtain ⟨h1, h2, h3⟩ := gainBackup_weights (available s o.primary)
        (if available old o.primary && !available s o.primary then losePrimary (available s o.backup) o else o)
      exact ⟨h1.trans hwp, h2.trans hwb, h3.trans hduck⟩
    · exact ⟨hwp, hwb, hduck⟩

/-- A setting places an output under the rule whatever it was (R149). -/
theorem placeOutput_selection {s : State} {o : Output} : SelectionRule (placeOutput s o) := by
  unfold placeOutput
  split
  · rename_i hprimary
    exact ⟨fun _ => ⟨rfl, rfl⟩, fun h => absurd hprimary h, by simp, by simp, fun _ => rfl⟩
  · rename_i src hprimary
    have hne : o.primary ≠ none := by simp [hprimary]
    dsimp only
    split
    · exact selectionRule_primary hne
    · exact losePrimary_keeps_rule (selectionRule_primary hne) hne

theorem placeOutput_weights {s : State} {o : Output} :
    (placeOutput s o).wp = o.wp ∧ (placeOutput s o).wb = o.wb ∧ (placeOutput s o).duck = o.duck := by
  unfold placeOutput
  split
  · exact ⟨rfl, rfl, rfl⟩
  · dsimp only
    split
    · exact ⟨rfl, rfl, rfl⟩
    · exact losePrimary_weights _ _

theorem weightRule_of_same {o o' : Output} (h : o'.wp = o.wp ∧ o'.wb = o.wb ∧ o'.duck = o.duck) (ho : WeightRule o) :
    WeightRule o' := by
  obtain ⟨hwp, hwb, hduck⟩ := h
  rwa [WeightRule, hwp, hwb, hduck]

@[simp] theorem followOutputs_get (old s : State) (i : OutId) :
    ((followOutputs old s).outputs[i]'i.2) = followOutput old s (s.outputs[i]'i.2) := by
  simp [followOutputs]

theorem followOutputs_keeps_outputRules {old s : State} (h : OutputRules s) : OutputRules (followOutputs old s) := by
  rw [outputRules_iff] at h ⊢
  intro i
  rw [followOutputs_get]
  obtain ⟨hsel, hweight⟩ := h i
  exact ⟨followOutput_keeps_rule hsel, weightRule_of_same (followOutput_weights _ _ _) hweight⟩

/-! ## The operations that reach the outputs -/

theorem setOutputRec_get (o : OutId) (r : Output) (s : State) (i : OutId) :
    ((setOutputRec o r s).outputs[i]'i.2) = if i = o then r else (s.outputs[i]'i.2) := vset_get _ _ _ _

theorem setOutputRec_keeps_outputRules {o : OutId} {r : Output} {s : State} (h : OutputRules s) (hr : OutputRule r) :
    OutputRules (setOutputRec o r s) := by
  rw [outputRules_iff] at h ⊢
  intro i
  rw [setOutputRec_get]
  split
  · exact hr
  · exact h i

section
variable {s : State} (hs : OutputRules s)
include hs

theorem goOffline_keeps_outputRules {old : State} {p : Port} : OutputRules (goOffline old p s) := by
  unfold goOffline
  dsimp only
  refine outputRules_reads.kept (settle_frame _) (outputRules_reads.kept (reselect_frame _)
    (followOutputs_keeps_outputRules ?_))
  exact hs

theorem leaveCarrying_keeps_outputRules {p : Port} {x : PathName} {r : PathRec} :
    OutputRules (leaveCarrying p x r s) := by
  have hset : OutputRules (setPath p x r s) := outputRules_reads.kept (setPath_frame p x r s) hs
  unfold leaveCarrying
  dsimp only
  split
  · split
    · exact outputRules_reads.kept (moveReference_frame _ _ _) hset
    · exact hset
  · exact goOffline_keeps_outputRules hset

theorem scoreCarrying_keeps_outputRules {p : Port} {x : PathName} (hcarries : carries (pathRec s p x) = true) :
    OutputRules (scoreCarrying p x s) := by
  obtain h | ⟨r, h, -⟩ := scoreCarrying_cases hcarries
  · rw [h]
    exact leaveCarrying_keeps_outputRules hs
  · rw [h]
    exact outputRules_reads.kept (setPath_frame _ _ _ _) hs

theorem scorePath_keeps_outputRules {p : Port} {x : PathName} : OutputRules (scorePath p x s) := by
  unfold scorePath
  split
  case h_1 | h_2 => exact hs
  case h_3 =>
    exact outputRules_reads.kept (settle_frame _) (outputRules_reads.kept (scoreAcquire_frame p x s) hs)
  all_goals
    rename_i hstate
    exact outputRules_reads.kept (settle_frame _)
      (scoreCarrying_keeps_outputRules hs (by rw [carries, hstate]; rfl))

set_option Elab.async false in
theorem writePathFlag_keeps_outputRules {a b : Bool} {p : Port} {x : PathName} :
    OutputRules (writePathFlag a b p x s) := by
  unfold writePathFlag disablePath
  dsimp only
  split
  · split
    · exact leaveCarrying_keeps_outputRules hs
    · exact outputRules_reads.kept (setPath_frame _ _ _ _) hs
  · exact outputRules_reads.kept (enablePath_frame _ _ _) hs
  · exact hs

theorem applyPathEnable_keeps_outputRules {old : PerPort (PerPath Bool)} : OutputRules (applyPathEnable old s) :=
  outputRules_reads.kept (settle_frame _) <|
    foldl_keeps (I := OutputRules) (fun _ _ h => foldl_keeps (I := OutputRules)
      (fun _ _ h => writePathFlag_keeps_outputRules h) _ _ h) _ _ hs

theorem applyItem_keeps_outputRules {i : Item} {old : Settings} : OutputRules (applyItem i old s) := by
  cases i
  case clockPriority =>
    exact outputRules_reads.kept (settle_frame _) (outputRules_reads.kept (reselect_frame _) hs)
  case pathEnable => exact applyPathEnable_keeps_outputRules hs
  case key => exact outputRules_reads.kept (applyKeyConfig_frame _ _ _) hs
  case alarm => exact outputRules_reads.kept (driveLines_frame _) hs
  case timeout => exact outputRules_reads.kept (holdTimeout_frame _ _ _) hs
  all_goals exact hs

theorem answerSetOutput_keeps_outputRules {p : Port} {m : Msg} : OutputRules (answerSetOutput p m s).state := by
  refine judged_state hs (outputRules_reads.kept (appendEntry_frame _ _ _ _ _) (outputRules_reads.kept (settle_frame _) ?_))
  obtain ⟨-, hweight⟩ := outputRules_iff.mp hs (outArg m)
  refine setOutputRec_keeps_outputRules hs ⟨placeOutput_selection, weightRule_of_same placeOutput_weights ?_⟩
  exact hweight

theorem handlerOf_keeps_outputRules {before k p m} (htouch : Touches [.outputs] (handlerBlocks k)) :
    OutputRules (handlerOf before k p m s).state := by
  cases k
  case setOutput => exact answerSetOutput_keeps_outputRules hs
  case writeSetting =>
    unfold handlerOf answerWriteSetting
    dsimp only
    split
    · exact hs
    · exact judged_state hs (applyItem_keeps_outputRules (outputRules_reads.kept (storeItem_frame _ _ _ _) hs))
  all_goals exact absurd htouch (by decide)

/-- While failed over with its primary available an output's timer falls, and at 0 it is on its primary again (R146). -/
theorem countHoldoff_keeps_outputRules {i : OutId} : OutputRules (countHoldoff i s) := by
  obtain ⟨hsel, hweight⟩ := outputRules_iff.mp hs i
  unfold countHoldoff
  dsimp only
  split
  · rename_i hreturn
    obtain ⟨hfailed, havail⟩ := Bool.and_eq_true_iff.mp hreturn
    split
    · exact outputRules_reads.kept (settle_frame _) (setOutputRec_keeps_outputRules hs
        ⟨selectionRule_primary (primary_of_available havail), hweight⟩)
    · rename_i hrunning
      obtain ⟨hnone, hiff, hbackup, htimer, -⟩ := hsel
      obtain ⟨haction, -, hmax⟩ := htimer hfailed
      refine setOutputRec_keeps_outputRules hs
        ⟨⟨hnone, hiff, hbackup, fun _ => ⟨haction, ?_, ?_⟩, fun h => absurd (hfailed.symm.trans h) (by simp)⟩, hweight⟩
      · dsimp only; omega
      · dsimp only; omega
  · exact hs

end

/-! ## The weights -/

/-- A sample period steps the weights within their bounds: of the two only the selected source's rises (R153). -/
theorem stepOutput_keeps_rule {talked : Bool} {o : Output} (h : OutputRule o) : OutputRule (stepOutput talked o) := by
  obtain ⟨hsel, hsum, hduck⟩ := h
  refine ⟨hsel, ?_, ?_⟩
  · unfold stepOutput stepWeight
    dsimp only
    cases o.sel
    case silent => simp; omega
    all_goals simp; split <;> omega
  · unfold stepOutput stepWeight
    dsimp only
    split
    · split <;> omega
    · omega

theorem stepped_keeps_rule {s : State} {i : OutId} (h : OutputRule (s.outputs[i]'i.2)) (k : Nat) :
    OutputRule (stepped s i k) := by
  induction k with
  | zero => exact h
  | succ k ih => exact stepOutput_keeps_rule ih

@[simp] theorem playOutputs_get (s : State) (i : OutId) :
    ((playOutputs s).outputs[i]'i.2) = { stepped s i 8 with frame := outputFrame s i } := by
  simp [playOutputs]

theorem endBoundary_outputs (s : State) : (endBoundary s).outputs = (playOutputs s).outputs := by
  unfold endBoundary
  dsimp only
  rw [(withLatch_frame _ _) .outputs (by decide), (withPhantom_frame _ _) .outputs (by decide),
    (fixPeriods_frame _) .outputs (by decide)]

theorem endBoundary_keeps_outputRules {s : State} (h : OutputRules s) : OutputRules (endBoundary s) := by
  rw [outputRules_iff] at h ⊢
  intro i
  rw [endBoundary_outputs, playOutputs_get]
  exact stepped_keeps_rule (h i) 8

theorem rstnLow_keeps_outputRules {s t : State} (he : execRstnLow s = .next t) (h : OutputRules s) : OutputRules t := by
  rw [outputRules_iff] at h ⊢
  intro i
  cases he
  simp only [State.withLatch_fields, State.withOutputs_fields, State.withSent_fields, State.withRstn_fields,
    Fin.getElem_fin, Vector.getElem_ofFn]
  exact h i

set_option Elab.async false in
theorem outputRules_reset (straps sig q) :
    OutputRules (((State.reset.withUnitAddr straps).withSignal sig).withPending q) := by
  refine outputRules_iff.mpr fun i => ?_
  have ho : (State.reset.outputs[i]'i.2) = Output.atReset := Vector.getElem_replicate ..
  simp only [State.withPending_fields, State.withSignal_fields, State.withUnitAddr_fields, ho]
  exact ⟨⟨fun _ => ⟨rfl, rfl⟩, fun h => absurd rfl h, by decide, by decide, fun _ => rfl⟩, by decide, by decide⟩

/-- The outputs are reached where a source's availability changes, by a setting, a holdoff and the end of a boundary. -/
theorem outputRules_kept : KeptByOperations OutputRules :=
  keptByOperations_of_touched outputRules_reads
    (reset := outputRules_reset)
    (handler := fun _ _ _ _ _ htouch _ hs => handlerOf_keeps_outputRules hs htouch)
    (rstnLow := fun _ _ _ he hs => rstnLow_keeps_outputRules he hs)
    (scorePath := fun _ _ _ _ hs => scorePath_keeps_outputRules hs)
    (deliverAudio := fun _ _ _ _ _ _ _ hs =>
      outputRules_reads.kept (settle_frame _) (followOutputs_keeps_outputRules hs))
    (countHoldoff := fun _ _ _ hs => countHoldoff_keeps_outputRules hs)
    (endBoundary := fun _ _ hs => endBoundary_keeps_outputRules hs)

/-- Settles O59: each change of an output's sources, its setting, its holdoff and a sample period keeps the rules. -/
theorem stepKeepsTheOutputs : Obligations.StepKeepsTheOutputs := fun _ _ hs he => outputRules_kept.step he hs

end Sys2Proof.Safety
end

section
/-! SUPPORT and PROOFS. The clock monitors and the selected source after each operation on them (R25, R30, R32), and the
statement that every step keeps the clock selection. -/
namespace Sys2Proof.Safety

open Sys2Proof.Machine

/-! ## The monitors after one was replaced -/

theorem setMonitor_get (p m s) (q : Port) :
    (setMonitor p m s).clock.monitors.get q = if q = p then m else s.clock.monitors.get q := PerPort.get_set _ _ _ _

/-- A monitor replaced by one in the same clock state moves no port's clock state. -/
theorem setMonitor_state {p m} {s : State} (h : m.state = (s.clock.monitors.get p).state) (q : Port) :
    ((setMonitor p m s).clock.monitors.get q).state = (s.clock.monitors.get q).state := by
  rw [setMonitor_get]
  split
  · rename_i hq
    rw [h, hq]
  · rfl

@[simp] theorem switchIfSource_monitors (p s) : (switchIfSource p s).clock.monitors = s.clock.monitors := rfl

@[simp] theorem reselect_monitors (s) : (reselect s).clock.monitors = s.clock.monitors := rfl

theorem moveReference_state (p x s) (q : Port) :
    ((moveReference p x s).clock.monitors.get q).state = (s.clock.monitors.get q).state :=
  setMonitor_state (m := { s.clock.monitors.get p with ref := some x, interval := freshInterval s p x }) rfl q

/-! ## The rule of the clock -/

/-- The clock states alone: a port's clock is UNUSABLE just while the port is OFFLINE (R30). -/
def ClockStatesOk (s : State) : Prop := ∀ p, (s.clock.monitors.get p).state = .unusable ↔ online s p = false

theorem ClockOk.states {s : State} (h : ClockOk s) : ClockStatesOk s := h.2

/-- A verdict makes no clock UNUSABLE, and takes none out of it (R29). -/
theorem verdict_unusable (ok : Bool) (m : Monitor) : (verdict ok m).state = .unusable ↔ m.state = .unusable := by
  unfold verdict
  split
  case h_1 => exact Iff.rfl
  case h_2 | h_5 | h_6 => split <;> simp_all
  all_goals simp_all

/-- The receiver of a path that has gone UP: a new degrade block, its place in the stream kept (R5). -/
def upReceiver (p : Port) (x : PathName) (n : Nat) (s : State) : PathRec :=
  { PathRec.dark with rx := (pathRec s p x).rx, state := .up, goodCount := n }

theorem goUp_paths (p x n s) : (goUp p x n s).paths = pathsWith p x (upReceiver p x n s) s := by
  unfold goUp
  dsimp only
  split
  · split
    · exact placeCopy_frame _ _ _ .paths (by decide)
    · rfl
  · exact goOnline_frame _ _ _ _ .paths (by decide)

/-- What the rule of the clock is judged from is the same. -/
def SameClock (s t : State) : Prop :=
  (∀ p, (t.clock.monitors.get p).state = (s.clock.monitors.get p).state) ∧ t.clock.source = s.clock.source
    ∧ t.settings.clockPriority = s.settings.clockPriority ∧ ∀ p, online t p = online s p

theorem clockStatesOk_of_same {s t : State} (hs : ClockStatesOk s)
    (hstate : ∀ p, (t.clock.monitors.get p).state = (s.clock.monitors.get p).state)
    (honline : ∀ p, online t p = online s p) : ClockStatesOk t := by
  intro p
  rw [hstate, honline]
  exact hs p

set_option Elab.async false in
theorem clockOk_of_same {s t : State} (h : SameClock s t) (hs : ClockOk s) : ClockOk t := by
  obtain ⟨hstate, hsource, hpriority, honline⟩ := h
  refine ⟨?_, clockStatesOk_of_same hs.states hstate honline⟩
  have hgood : (fun p => (t.clock.monitors.get p).state == .good) = fun p => (s.clock.monitors.get p).state == .good :=
    funext fun p => by rw [hstate]
  rw [hsource, hpriority, hgood]
  exact hs.1

theorem clockOk_reads : Reads [.clock, .settings, .paths] ClockOk := by
  intro s t h hs
  have hc : t.clock = s.clock := h .clock (by decide)
  have hset : t.settings = s.settings := h .settings (by decide)
  exact clockOk_of_same ⟨fun _ => by rw [hc], by rw [hc], by rw [hset], online_of_paths (h .paths (by decide))⟩ hs

/-- Where the clock states are right, a selection made afresh is right (R32). -/
theorem clockOk_reselect {s : State} (h : ClockStatesOk s) : ClockOk (reselect s) := ⟨rfl, h⟩

/-- A receiver that carries its port as before leaves the rule as it was. -/
theorem setPath_keeps_clockOk {p x r} {s : State} (hs : ClockOk s)
    (honline : ∀ q, online (setPath p x r s) q = online s q) : ClockOk (setPath p x r s) :=
  clockOk_of_same (s := s) ⟨fun _ => rfl, rfl, rfl, honline⟩ hs

section
variable {s : State} (hs : ClockOk s)
include hs

theorem setMonitor_keeps_clockOk {p m} (h : m.state = (s.clock.monitors.get p).state) : ClockOk (setMonitor p m s) :=
  clockOk_of_same ⟨setMonitor_state h, rfl, rfl, fun _ => rfl⟩ hs

theorem switchIfSource_keeps_clockOk {p} : ClockOk (switchIfSource p s) :=
  clockOk_of_same ⟨fun _ => rfl, rfl, rfl, fun _ => rfl⟩ hs

theorem moveReference_keeps_clockOk {p x} : ClockOk (moveReference p x s) :=
  clockOk_of_same ⟨moveReference_state p x s, rfl, rfl, fun _ => rfl⟩ hs

theorem openBoundary_keeps_clockOk : ClockOk (openBoundary s) := by
  unfold openBoundary
  split
  · exact clockOk_of_same ⟨fun _ => rfl, rfl, rfl, fun _ => rfl⟩ hs
  · exact hs

/-! ## The receivers -/

theorem endPeriod_keeps_clockOk {p x} : ClockOk (endPeriod p x s) := by
  unfold endPeriod
  dsimp only
  split
  · exact setMonitor_keeps_clockOk hs (by rfl)
  · exact hs

theorem arriveFrame_keeps_clockOk {p x f} : ClockOk (arriveFrame p x f s) := by
  unfold arriveFrame
  split
  · have hrx : ClockOk (setPath p x { pathRec s p x with rx := .nextWord } s) :=
      setPath_keeps_clockOk hs (online_setPath_rx p x _ s)
    have hperiod : ClockOk (endPeriod p x (setPath p x { pathRec s p x with rx := .nextWord } s)) :=
      endPeriod_keeps_clockOk hrx
    refine clockOk_reads.kept (settle_frame _) (clockOk_of_same ⟨?_, ?_, ?_, takeArrival_online _ _ _ _⟩ hperiod)
    · intro q
      rw [(takeArrival_frame _ _ _ _) .clock (by decide)]
    · rw [(takeArrival_frame _ _ _ _) .clock (by decide)]
    · rw [(takeArrival_frame _ _ _ _) .settings (by decide)]
  · exact hs

theorem matchSync_keeps_clockOk {p x bits} : ClockOk (matchSync p x bits s) :=
  have hframe := matchSync_frame p x bits s
  have hclock : (matchSync p x bits s).clock = s.clock := hframe .clock (by decide)
  have hsettings : (matchSync p x bits s).settings = s.settings := hframe .settings (by decide)
  clockOk_of_same ⟨fun _ => by rw [hclock], by rw [hclock], by rw [hsettings], matchSync_online p x bits s⟩ hs

theorem examineNext_keeps_clockOk {p x next} : ClockOk (examineNext p x next s) :=
  have hframe := examineNext_frame p x next s
  have hclock : (examineNext p x next s).clock = s.clock := hframe .clock (by decide)
  have hsettings : (examineNext p x next s).settings = s.settings := hframe .settings (by decide)
  clockOk_of_same ⟨fun _ => by rw [hclock], by rw [hclock], by rw [hsettings], examineNext_online p x next s⟩ hs

set_option Elab.async false in
/-- A receiver that hunts after its signal has changed. -/
theorem huntingAgain_keeps_clockOk {p x} (v : PerPort (PerPath Bool)) :
    ClockOk (setPath p x { pathRec (s.withSignal v) p x with rx := .hunting } (s.withSignal v)) :=
  setPath_keeps_clockOk (clockOk_reads.kept (withSignal_frame v s) hs) (online_setPath_rx p x _ _)

theorem loseSignal_keeps_clockOk {p x} : ClockOk (loseSignal p x s) := by
  unfold loseSignal
  dsimp only
  split
  · have hrx := huntingAgain_keeps_clockOk hs (p := p) (x := x) (s.signal.set p ((s.signal.get p).set x false))
    split
    · split
      · exact moveReference_keeps_clockOk hrx
      · exact setMonitor_keeps_clockOk hrx (by rfl)
    · exact hrx
  · exact hs

theorem returnSignal_keeps_clockOk {p x} : ClockOk (returnSignal p x s) := by
  unfold returnSignal
  dsimp only
  split
  · exact hs
  · have hrx := huntingAgain_keeps_clockOk hs (p := p) (x := x) (s.signal.set p ((s.signal.get p).set x true))
    split
    · exact switchIfSource_keeps_clockOk (setMonitor_keeps_clockOk hrx (by rfl))
    · exact hrx

/-! ## Ports that go ONLINE and OFFLINE -/

/-- A port goes OFFLINE with its clock UNUSABLE, and the selection is made afresh (R12, R30). -/
theorem goOffline_clockOk {old p x r} (hoff : online (setPath p x r s) p = false) :
    ClockOk (goOffline old p (setPath p x r s)) := by
  have hstates : ClockStatesOk (setMonitor p
      { s.clock.monitors.get p with state := .unusable, run := 0, ref := none, interval := .none } (setPath p x r s)) := by
    intro q
    change (_ : Monitor).state = _ ↔ online (setPath p x r s) q = false
    rw [setMonitor_get]
    by_cases hq : q = p
    · simp [hq, hoff]
    · rw [if_neg hq, online_setPath_other _ _ _ _ hq]
      exact hs.states q
  unfold goOffline
  dsimp only
  exact clockOk_reads.kept (settle_frame _) (clockOk_reselect hstates)

theorem leaveCarrying_keeps_clockOk {p x r} (hcarries : carries (pathRec s p x) = true) :
    ClockOk (leaveCarrying p x r s) := by
  unfold leaveCarrying
  dsimp only
  split
  · rename_i hstays
    have hset : ClockOk (setPath p x r s) := by
      refine setPath_keeps_clockOk hs fun q => ?_
      by_cases hq : q = p
      · rw [hq, hstays, online_eq s p x, hcarries, Bool.true_or]
      · exact online_setPath_other _ _ _ _ hq
    split
    · exact moveReference_keeps_clockOk hset
    · exact hset
  · rename_i hoff
    exact goOffline_clockOk hs (Bool.eq_false_iff.mpr hoff)

/-- A path that goes UP leaves the clocks of an ONLINE port as they are, and gives an OFFLINE one a clock in CHECKING
(R11, R30). -/
theorem goUp_keeps_clockOk {p x n} : ClockOk (goUp p x n s) := by
  by_cases honline : online s p = true
  · have hsame (q : Port) : online (goUp p x n s) q = online s q := by
      by_cases hq : q = p
      · rw [hq, goUp_online_self, honline]
      · exact goUp_online_other _ _ _ _ hq
    have hframe : SameExcept [.paths, .merges, .faults] s (goUp p x n s) := by
      unfold goUp
      dsimp only
      rw [if_pos honline]
      split
      · exact (setPath_frame _ _ _ _).seq (placeCopy_frame _ _ _)
      · exact (setPath_frame _ _ _ _).mono (by decide)
    have hclock : (goUp p x n s).clock = s.clock := hframe .clock (by decide)
    have hsettings : (goUp p x n s).settings = s.settings := hframe .settings (by decide)
    exact clockOk_of_same ⟨fun _ => by rw [hclock], by rw [hclock], by rw [hsettings], hsame⟩ hs
  · have hstates (t : State) (hclock : t.clock = s.clock) (hpaths : t.paths = (goUp p x n s).paths) (ref : Option PathName)
        (interval : Interval) : ClockStatesOk (setMonitor p
          { t.clock.monitors.get p with state := .checking, run := 0, ref := ref, interval := interval } t) := by
      intro q
      have hq' : online (setMonitor p
          { t.clock.monitors.get p with state := .checking, run := 0, ref := ref, interval := interval } t) q
          = online (goUp p x n s) q := online_of_paths (by exact hpaths) q
      rw [hq', setMonitor_get]
      by_cases hq : q = p
      · simp [hq, goUp_online_self]
      · rw [if_neg hq, goUp_online_other _ _ _ _ hq, hclock]
        exact hs.states q
    unfold goUp goOnline
    dsimp only
    rw [if_neg honline]
    refine clockOk_reselect ?_
    split
    · rename_i c _
      exact hstates (setMerge p (recentre c (s.merges.get p)) (setPath p x (upReceiver p x n s) s)) rfl
        (goUp_paths p x n s).symm _ _
    · exact hstates (setPath p x (upReceiver p x n s) s) rfl (goUp_paths p x n s).symm _ _

theorem scorePath_keeps_clockOk {p x} : ClockOk (scorePath p x s) := by
  have hcarrying (h : carries (pathRec s p x) = true) : ClockOk (settle (scoreCarrying p x s)) := by
    refine clockOk_reads.kept (settle_frame _) ?_
    obtain hdark | ⟨r, hstays, hr⟩ := scoreCarrying_cases h
    · rw [hdark]
      exact leaveCarrying_keeps_clockOk hs h
    · rw [hstays]
      exact setPath_keeps_clockOk hs (online_setPath_of_same (hr.trans h.symm))
  unfold scorePath
  split
  case h_1 | h_2 => exact hs
  case h_3 hacquire =>
    refine clockOk_reads.kept (settle_frame _) ?_
    obtain ⟨n, hup⟩ | ⟨r, hstays, hr⟩ := scoreAcquire_cases hacquire
    · rw [hup]
      exact goUp_keeps_clockOk hs
    · rw [hstays]
      refine setPath_keeps_clockOk hs (online_setPath_of_same ?_)
      rw [carries, carries, hacquire]
      rcases hr with hr | hr
      · rw [hr]; rfl
      · rw [hr]
  case h_4 hup => exact hcarrying (by rw [carries, hup]; rfl)
  case h_5 hdegraded => exact hcarrying (by rw [carries, hdegraded]; rfl)

/-! ## Intervals and settings -/

theorem completeInterval_keeps_clockOk {p n} : ClockOk (completeInterval p n s) := by
  by_cases hkept : (judgedMonitor p n s).state = (s.clock.monitors.get p).state
  · rw [completeInterval_of_kept hkept]
    exact clockOk_reads.kept (settle_frame _) (setMonitor_keeps_clockOk hs hkept)
  · have hjudged : (judgedMonitor p n s).state = .unusable ↔ (s.clock.monitors.get p).state = .unusable :=
      verdict_unusable _ (recorded (min n 4194303) (s.clock.monitors.get p))
    have hstates : ClockStatesOk (setMonitor p (judgedMonitor p n s) s) := by
      intro q
      change _ ↔ online s q = false
      rw [setMonitor_get]
      split
      · rename_i hq
        rw [hq, hjudged]
        exact hs.states p
      · exact hs.states q
    have hclock := completeInterval_clock_of_moved hkept
    have hframe := completeInterval_frame p n s
    have hreselected : ClockOk (reselect (setMonitor p (judgedMonitor p n s) s)) := clockOk_reselect hstates
    refine clockOk_of_same ⟨fun q => by rw [hclock], by rw [hclock], ?_, fun q => ?_⟩ hreselected
    · rw [hframe .settings (by decide)]
      rfl
    · exact online_of_paths (hframe .paths (by decide)) q

theorem writePathFlag_keeps_clockOk {a b p x} : ClockOk (writePathFlag a b p x s) := by
  unfold writePathFlag
  split
  · unfold disablePath
    dsimp only
    split
    · rename_i hcarries
      exact leaveCarrying_keeps_clockOk hs hcarries
    · rename_i hidle
      exact setPath_keeps_clockOk hs (online_setPath_of_same (by rw [Bool.eq_false_iff.mpr hidle]; rfl))
  · unfold enablePath
    split
    · rename_i hdisabled
      refine setPath_keeps_clockOk hs (online_setPath_of_same ?_)
      rw [carries, carries, show (pathRec s p x).state = .disabled by simpa using hdisabled]
      rfl
    · exact hs
  · exact hs

/-- Settings that leave the list of sources leave the rule. -/
theorem storeItem_keeps_clockOk {p i v} (h : (putItem i v s.settings).clockPriority = s.settings.clockPriority) :
    ClockOk (storeItem p i v s) :=
  clockOk_reads.kept (appendEntry_frame _ _ _ _ _)
    (clockOk_of_same (s := s) (t := s.withSettings (putItem i v s.settings)) ⟨fun _ => rfl, rfl, h, fun _ => rfl⟩ hs)

theorem writeItem_keeps_clockOk {p i v} : ClockOk (writeItem p i v s).state := by
  unfold writeItem
  dsimp only
  cases i
  case clockPriority => exact clockOk_reads.kept (settle_frame _) (clockOk_reselect hs.states)
  case pathEnable =>
    exact clockOk_reads.kept (settle_frame _) (foldl_keeps (I := ClockOk) (fun _ _ h =>
      foldl_keeps (I := ClockOk) (fun _ _ h => writePathFlag_keeps_clockOk h) _ _ h) _ _ (storeItem_keeps_clockOk hs rfl))
  case key => exact clockOk_reads.kept (applyKeyConfig_frame _ _ _) (storeItem_keeps_clockOk hs rfl)
  case alarm => exact clockOk_reads.kept (driveLines_frame _) (storeItem_keeps_clockOk hs rfl)
  case timeout => exact clockOk_reads.kept (holdTimeout_frame _ _ _) (storeItem_keeps_clockOk hs rfl)
  all_goals exact storeItem_keeps_clockOk hs rfl

theorem handlerOf_keeps_clockOk {before k p m} (htouch : Touches [.clock, .settings, .paths] (handlerBlocks k)) :
    ClockOk (handlerOf before k p m s).state := by
  cases k
  case writeSetting =>
    unfold handlerOf answerWriteSetting
    dsimp only
    split
    · exact hs
    · exact judged_state hs (writeItem_keeps_clockOk hs)
  all_goals exact absurd htouch (by decide)

end

set_option Elab.async false in
theorem clockOk_reset (straps sig q) :
    ClockOk (((State.reset.withUnitAddr straps).withSignal sig).withPending q) :=
  ⟨rfl, fun p => by cases p <;> exact ⟨fun _ => rfl, fun _ => rfl⟩⟩

/-- The clock is reached by the receivers, the scores, the intervals and the settings. -/
theorem clockOk_kept : KeptByOperations ClockOk :=
  keptByOperations_of_touched clockOk_reads
    (reset := clockOk_reset)
    (handler := fun _ _ _ _ _ htouch _ hs => handlerOf_keeps_clockOk hs htouch)
    (openBoundary := fun _ _ hs => openBoundary_keeps_clockOk hs)
    (arriveFrame := fun _ _ _ _ _ hs => arriveFrame_keeps_clockOk hs)
    (loseSignal := fun _ _ _ _ hs => loseSignal_keeps_clockOk hs)
    (returnSignal := fun _ _ _ _ hs => returnSignal_keeps_clockOk hs)
    (matchSync := fun _ _ _ _ _ hs => matchSync_keeps_clockOk hs)
    (examineNext := fun _ _ _ _ _ hs => examineNext_keeps_clockOk hs)
    (completeInterval := fun _ _ _ _ _ hs => completeInterval_keeps_clockOk hs)
    (scorePath := fun _ _ _ _ hs => scorePath_keeps_clockOk hs)

/-- Settles O57: a clock state changes with a verdict or with its port's state, and then the selection is made afresh. -/
theorem stepKeepsTheClockSelection : Obligations.StepKeepsTheClockSelection := fun _ _ hs he => clockOk_kept.step he hs

end Sys2Proof.Safety
end

section
/-! SUPPORT and PROOFS. The path receivers after each operation on them (R3 to R8), the receivers after a write of
PATH_ENABLE, and the rule of the paths. -/
namespace Sys2Proof.Safety

open Sys2Proof.Machine

/-! ## The receivers after a write of PATH_ENABLE (R8) -/

/-- A receiver after its flag in PATH_ENABLE was written (R8). -/
def flagged (before after : Bool) (r : PathRec) : PathRec :=
  match before, after with
  | true, false => clearedPath .disabled r
  | false, true => if r.state == .disabled then .dark else r
  | _, _ => r

theorem pathRec_setPath (p x r s) (q : Port) (y : PathName) :
    pathRec (setPath p x r s) q y = if q = p ∧ y = x then r else pathRec s q y := pathsWith_get p x r s q y

theorem pathRec_of_paths {s t : State} (h : t.paths = s.paths) (p : Port) (x : PathName) : pathRec t p x
    = pathRec s p x := by
  rw [pathRec, h]
  rfl

theorem pathRec_setPath_same (p x s) (q : Port) (y : PathName) :
    (if q = p ∧ y = x then pathRec s p x else pathRec s q y) = pathRec s q y := by
  split
  · rename_i h
    rw [h.1, h.2]
  · rfl

theorem pathRec_disablePath (p x s) (q : Port) (y : PathName) :
    pathRec (disablePath p x s) q y = if q = p ∧ y = x then clearedPath .disabled (pathRec s p x) else pathRec s q y := by
  unfold disablePath
  dsimp only
  split
  · exact (pathRec_of_paths (s := setPath p x (clearedPath .disabled (pathRec s p x)) s)
      (leaveCarrying_paths _ _ _ _) q y).trans (pathRec_setPath _ _ _ _ _ _)
  · exact pathRec_setPath _ _ _ _ _ _

theorem pathRec_enablePath (p x s) (q : Port) (y : PathName) :
    pathRec (enablePath p x s) q y
      = if q = p ∧ y = x then (if (pathRec s p x).state == .disabled then .dark else pathRec s p x)
        else pathRec s q y := by
  unfold enablePath
  split
  · exact pathRec_setPath _ _ _ _ _ _
  · exact (pathRec_setPath_same p x s q y).symm

theorem pathRec_writePathFlag (a b p x s) (q : Port) (y : PathName) :
    pathRec (writePathFlag a b p x s) q y = if q = p ∧ y = x then flagged a b (pathRec s p x) else pathRec s q y := by
  cases a <;> cases b
  case true.false => exact pathRec_disablePath p x s q y
  case false.true => exact pathRec_enablePath p x s q y
  all_goals exact (pathRec_setPath_same p x s q y).symm

/-- The six receivers in the order in which a write of PATH_ENABLE visits them. -/
def allPaths : List (Port × PathName) := ports.flatMap fun p => pathNames.map fun x => (p, x)

theorem mem_allPaths (a : Port × PathName) : a ∈ allPaths := by
  obtain ⟨p, x⟩ := a
  cases p <;> cases x <;> decide

/-- The visits of a write of PATH_ENABLE, as one pass over the six paths. -/
theorem applyPathEnable_eq (old : PerPort (PerPath Bool)) (s : State) :
    applyPathEnable old s = settle (allPaths.foldl (fun t a =>
      writePathFlag ((old.get a.1).get a.2) ((s.settings.pathEnable.get a.1).get a.2) a.1 a.2 t) s) := by
  simp only [applyPathEnable, allPaths, List.foldl_flatMap, List.foldl_map]

theorem pathRec_applyPathEnable (old : PerPort (PerPath Bool)) (s : State) (p : Port) (x : PathName) :
    pathRec (applyPathEnable old s) p x
      = flagged ((old.get p).get x) ((s.settings.pathEnable.get p).get x) (pathRec s p x) := by
  rw [applyPathEnable_eq, pathRec_of_paths (settle_frame _ .paths (by decide))]
  have h := foldl_read (f := fun t (a : Port × PathName) =>
      writePathFlag ((old.get a.1).get a.2) ((s.settings.pathEnable.get a.1).get a.2) a.1 a.2 t)
    (fun t a => pathRec t a.1 a.2)
    (fun t a => flagged ((old.get a.1).get a.2) ((s.settings.pathEnable.get a.1).get a.2) (pathRec t a.1 a.2))
    (fun t a => by simp [pathRec_writePathFlag])
    (fun t a b hb => by
      rw [pathRec_writePathFlag, if_neg fun h => hb (Prod.ext h.1 h.2)])
    (fun t a b hb => by
      rw [pathRec_writePathFlag, if_neg fun h => hb (Prod.ext h.1 h.2)])
    (xs := allPaths) (by decide) s (p, x)
  rw [if_pos (mem_allPaths (p, x))] at h
  exact h

/-! ## The rule of one receiver -/

/-- What `PathsOk` asks of one receiver, whose flag in PATH_ENABLE is given. -/
def PathRule (flag : Bool) (r : PathRec) : Prop :=
  (r.state = .disabled ↔ flag = false)
  ∧ (r.state = .acquire → r.goodCount < 48 ∧ r.missRun < 12)
  ∧ (r.state = .up ∨ r.state = .degraded → r.missRun < 12 ∧ r.blockCount < 256 ∧ r.suspectCount ≤ 255 ∧ r.acq = none)

set_option Elab.async false in
theorem pathsOk_iff {s : State} :
    PathsOk s ↔ ∀ p x, PathRule ((s.settings.pathEnable.get p).get x) (pathRec s p x) := Iff.rfl

theorem pathsOk_reads : Reads [.paths, .settings] PathsOk := by
  intro s t h hs p x
  have hp : t.paths = s.paths := h .paths (by decide)
  have hset : t.settings = s.settings := h .settings (by decide)
  rw [hp, hset]
  exact hs p x

/-- One receiver replaced, and the flags as they were. -/
theorem pathsOk_pathsWith {p x r} {s t : State} (hs : PathsOk s) (hpaths : t.paths = pathsWith p x r s)
    (hflags : t.settings.pathEnable = s.settings.pathEnable) (hr : PathRule ((s.settings.pathEnable.get p).get x) r) :
    PathsOk t := by
  refine pathsOk_iff.mpr fun q y => ?_
  rw [pathRec, hpaths, hflags, pathsWith_get]
  split
  · rename_i h
    rw [h.1, h.2]
    exact hr
  · exact hs q y

/-- A receiver in DARK is under the rule where its flag is set. -/
theorem pathRule_dark {flag : Bool} {r : PathRec} (hflag : flag = true) (h : r.state = .dark) : PathRule flag r :=
  ⟨by simp [h, hflag], by simp [h], by simp [h]⟩

theorem pathRule_disabled {r : PathRec} (h : r.state = .disabled) : PathRule false r :=
  ⟨by simp [h], by simp [h], by simp [h]⟩

theorem pathRule_acquire {flag : Bool} {r : PathRec} (hflag : flag = true) (h : r.state = .acquire)
    (hgood : r.goodCount < 48) (hmiss : r.missRun < 12) : PathRule flag r :=
  ⟨by simp [h, hflag], fun _ => ⟨hgood, hmiss⟩, by simp [h]⟩

theorem pathRule_carrying {flag : Bool} {r : PathRec} (hflag : flag = true) (h : carries r = true)
    (hr : r.missRun < 12 ∧ r.blockCount < 256 ∧ r.suspectCount ≤ 255 ∧ r.acq = none) : PathRule flag r := by
  have hstate : r.state = .up ∨ r.state = .degraded := by simpa [carries] using h
  refine ⟨?_, ?_, fun _ => hr⟩ <;> rcases hstate with h | h <;> simp [h, hflag]

/-- A receiver that is not DISABLED has its flag set. -/
theorem PathRule.flag {flag : Bool} {r : PathRec} (h : PathRule flag r) (hstate : r.state ≠ .disabled) : flag = true :=
  Bool.of_not_eq_false fun hf => hstate (h.1.mpr hf)

theorem PathRule.carrying {flag : Bool} {r : PathRec} (h : PathRule flag r) (hcarries : carries r = true) :
    r.missRun < 12 ∧ r.blockCount < 256 ∧ r.suspectCount ≤ 255 ∧ r.acq = none :=
  h.2.2 (by simpa [carries] using hcarries)

/-- A receiver's place in its stream and what it has recorded of an interval are no matter of the rule. -/
theorem PathRule.of_same {flag : Bool} {r r' : PathRec} (h : PathRule flag r) (hstate : r'.state = r.state)
    (hgood : r'.goodCount = r.goodCount) (hmiss : r'.missRun = r.missRun) (hblock : r'.blockCount = r.blockCount)
    (hsuspect : r'.suspectCount = r.suspectCount) (hacq : r'.acq = r.acq) : PathRule flag r' := by
  rwa [PathRule, hstate, hgood, hmiss, hblock, hsuspect, hacq]

/-- A write of PATH_ENABLE leaves each receiver as its new flag asks (R8). -/
theorem flagged_keeps_rule {before after : Bool} {r : PathRec} (h : PathRule before r) :
    PathRule after (flagged before after r) := by
  cases before <;> cases after
  case true.false => exact pathRule_disabled rfl
  case false.true =>
    have hdisabled : r.state = .disabled := h.1.mpr rfl
    rw [flagged, hdisabled]
    exact pathRule_dark rfl rfl
  all_goals exact h

/-- A degrade block that is judged begins anew (R7). -/
theorem advanceBlock_rule {flag : Bool} {r : PathRec} (hflag : flag = true)
    (hcarries : carries r = true) (hmiss : r.missRun < 12) (hsuspect : r.suspectCount ≤ 255)
    (hacq : r.acq = none) : PathRule flag (clearInterval (advanceBlock r)) := by
  refine pathRule_carrying hflag (advanceBlock_carries hcarries) ?_
  unfold clearInterval advanceBlock
  dsimp only
  split
  · exact ⟨hmiss, by simp, by simp, hacq⟩
  · rename_i hshort
    exact ⟨hmiss, Nat.lt_of_not_le hshort, hsuspect, hacq⟩

/-! ## The operations that reach the receivers -/

section
variable {s : State} (hs : PathsOk s)
include hs

set_option Elab.async false in
theorem setPath_keeps_pathsOk {p x r} (hr : PathRule ((s.settings.pathEnable.get p).get x) r) :
    PathsOk (setPath p x r s) := pathsOk_pathsWith hs rfl rfl hr

theorem setPath_rx_keeps_pathsOk {p x rx} : PathsOk (setPath p x { pathRec s p x with rx := rx } s) :=
  setPath_keeps_pathsOk hs (PathRule.of_same (hs p x) rfl rfl rfl rfl rfl rfl)

theorem pathsOk_flag {p x} (h : (pathRec s p x).state ≠ .disabled) : (s.settings.pathEnable.get p).get x = true :=
  PathRule.flag (hs p x) h

theorem takeArrival_keeps_pathsOk {p x c} : PathsOk (takeArrival p x c s) := by
  have hacquire {r : PathRec} (hr : PathRule ((s.settings.pathEnable.get p).get x) r) :
      PathsOk (setPath p x (acquireArrival c r) s) ∨ r.state ≠ .acquire := by
    by_cases hstate : r.state = .acquire
    · obtain ⟨hgood, hmiss⟩ := hr.2.1 hstate
      have hflag := hr.flag (by simp [hstate])
      refine .inl (setPath_keeps_pathsOk hs ?_)
      unfold acquireArrival
      dsimp only
      split
      · exact pathRule_acquire hflag hstate hgood hmiss
      · exact pathRule_acquire hflag hstate hgood hmiss
    · exact .inr hstate
  have hcarrying (h : carries (pathRec s p x) = true) : PathsOk (placeCopy p c (setPath p x
      { recordArrival c (pathRec s p x) with
        suspectCount := if c.good then (pathRec s p x).suspectCount else min 255 ((pathRec s p x).suspectCount + 1) }
      s)) := by
    obtain ⟨hmiss, hblock, hsuspect, hacq⟩ := PathRule.carrying (hs p x) h
    have hflag := pathsOk_flag hs (p := p) (x := x) (by intro hd; simp [carries, hd] at h)
    refine pathsOk_reads.kept (placeCopy_frame _ _ _) (setPath_keeps_pathsOk hs (pathRule_carrying hflag h ?_))
    refine ⟨hmiss, hblock, ?_, hacq⟩
    dsimp only
    split
    · exact hsuspect
    · exact Nat.min_le_left _ _
  unfold takeArrival
  dsimp only
  split
  case h_1 => exact hs
  case h_2 hdark =>
    have hflag := pathsOk_flag hs (p := p) (x := x) (by simp [hdark])
    exact (hacquire (pathRule_acquire hflag rfl (Nat.succ_pos 47) (Nat.succ_pos 11))).resolve_right (not_not_intro rfl)
  case h_3 hstate => exact (hacquire (hs p x)).resolve_right (not_not_intro hstate)
  case h_4 hup => exact hcarrying (by rw [carries, hup]; rfl)
  case h_5 hdegraded => exact hcarrying (by rw [carries, hdegraded]; rfl)

theorem arriveFrame_keeps_pathsOk {p x f} : PathsOk (arriveFrame p x f s) := by
  unfold arriveFrame
  split
  · exact pathsOk_reads.kept (settle_frame _) (takeArrival_keeps_pathsOk
      (pathsOk_reads.kept (endPeriod_frame _ _ _) (setPath_rx_keeps_pathsOk hs)))
  · exact hs

theorem matchSync_keeps_pathsOk {p x bits} : PathsOk (matchSync p x bits s) := by
  unfold matchSync
  dsimp only
  split
  · exact setPath_rx_keeps_pathsOk hs
  · exact hs

theorem examineNext_keeps_pathsOk {p x next} : PathsOk (examineNext p x next s) := by
  unfold examineNext
  dsimp only
  split
  · exact setPath_rx_keeps_pathsOk hs
  · exact hs

theorem loseSignal_keeps_pathsOk {p x} : PathsOk (loseSignal p x s) := by
  unfold loseSignal
  dsimp only
  split
  · have hrx : PathsOk (setPath p x
        { pathRec (s.withSignal (s.signal.set p ((s.signal.get p).set x false))) p x with rx := .hunting }
        (s.withSignal (s.signal.set p ((s.signal.get p).set x false)))) :=
      setPath_rx_keeps_pathsOk (pathsOk_reads.kept (withSignal_frame _ _) hs)
    split
    · split
      · exact pathsOk_reads.kept (moveReference_frame _ _ _) hrx
      · exact pathsOk_reads.kept (setMonitor_frame _ _ _) hrx
    · exact hrx
  · exact hs

theorem returnSignal_keeps_pathsOk {p x} : PathsOk (returnSignal p x s) := by
  unfold returnSignal
  dsimp only
  split
  · exact hs
  · have hrx : PathsOk (setPath p x
        { pathRec (s.withSignal (s.signal.set p ((s.signal.get p).set x true))) p x with rx := .hunting }
        (s.withSignal (s.signal.set p ((s.signal.get p).set x true)))) :=
      setPath_rx_keeps_pathsOk (pathsOk_reads.kept (withSignal_frame _ _) hs)
    split
    · exact pathsOk_reads.kept (switchIfSource_frame _ _) (pathsOk_reads.kept (setMonitor_frame _ _ _) hrx)
    · exact hrx

theorem scoreAcquire_keeps_pathsOk {p x} (hstate : (pathRec s p x).state = .acquire) : PathsOk (scoreAcquire p x s) := by
  obtain ⟨hgood, hmiss⟩ := (hs p x).2.1 hstate
  have hflag := pathsOk_flag hs (p := p) (x := x) (by simp [hstate])
  have hset {r : PathRec} := setPath_keeps_pathsOk hs (p := p) (x := x) (r := r)
  unfold scoreAcquire
  dsimp only
  split
  · split
    · exact hset (pathRule_dark hflag rfl)
    · rename_i hfew
      exact hset (pathRule_acquire hflag hstate (Nat.succ_pos 47) (by dsimp only [clearInterval]; omega))
  · split
    · exact hset (pathRule_acquire hflag hstate (Nat.succ_pos 47) (Nat.succ_pos 11))
    · split
      · refine pathsOk_pathsWith hs (goUp_paths _ _ _ _) ?_ (pathRule_carrying hflag rfl ?_)
        swap
        · exact ⟨Nat.succ_pos 11, Nat.succ_pos 255, Nat.zero_le _, rfl⟩
        rw [goUp_frame _ _ _ _ .settings (by decide)]
      · exact hset (pathRule_acquire hflag hstate (by dsimp only [clearInterval]; omega) (Nat.succ_pos 11))

theorem scoreCarrying_keeps_pathsOk {p x} (hcarries : carries (pathRec s p x) = true) :
    PathsOk (scoreCarrying p x s) := by
  obtain ⟨-, -, hsuspect, hacq⟩ := PathRule.carrying (hs p x) hcarries
  have hflag := pathsOk_flag hs (p := p) (x := x) (by intro hd; simp [carries, hd] at hcarries)
  unfold scoreCarrying
  dsimp only
  generalize (if (pathRec s p x).arrived = true then 0 else (pathRec s p x).missRun + 1) = n
  split
  · refine pathsOk_pathsWith hs (leaveCarrying_paths _ _ _ _) ?_ (pathRule_dark hflag rfl)
    rw [leaveCarrying_frame _ _ _ _ .settings (by decide)]
  · rename_i hfew
    exact setPath_keeps_pathsOk hs (advanceBlock_rule hflag (r := { pathRec s p x with missRun := n }) hcarries
      (Nat.lt_of_not_le hfew) hsuspect hacq)

theorem scorePath_keeps_pathsOk {p x} : PathsOk (scorePath p x s) := by
  unfold scorePath
  split
  case h_1 | h_2 => exact hs
  case h_3 hacquire => exact pathsOk_reads.kept (settle_frame _) (scoreAcquire_keeps_pathsOk hs hacquire)
  case h_4 hup =>
    exact pathsOk_reads.kept (settle_frame _) (scoreCarrying_keeps_pathsOk hs (by rw [carries, hup]; rfl))
  case h_5 hdegraded =>
    exact pathsOk_reads.kept (settle_frame _) (scoreCarrying_keeps_pathsOk hs (by rw [carries, hdegraded]; rfl))

/-! ## Settings -/

set_option Elab.async false in
/-- Settings that leave PATH_ENABLE leave the rule. -/
theorem storeItem_keeps_pathsOk {p i v} (h : (putItem i v s.settings).pathEnable = s.settings.pathEnable) :
    PathsOk (storeItem p i v s) := by
  have hstored : PathsOk (s.withSettings (putItem i v s.settings)) := by
    intro q y
    have hflags : (s.withSettings (putItem i v s.settings)).settings.pathEnable = s.settings.pathEnable := h
    rw [hflags]
    exact hs q y
  exact pathsOk_reads.kept (appendEntry_frame _ _ _ _ _) hstored

/-- A write of PATH_ENABLE leaves every receiver as the new flags ask (R8). -/
theorem writePathEnable_keeps_pathsOk {p v} : PathsOk (writeItem p .pathEnable v s).state := by
  refine pathsOk_iff.mpr fun q y => ?_
  have hflags : (writeItem p .pathEnable v s).state.settings.pathEnable
      = (storeItem p .pathEnable v s).settings.pathEnable :=
    congrArg Settings.pathEnable (applyPathEnable_frame _ _ .settings (by decide))
  have hpath : pathRec (writeItem p .pathEnable v s).state q y
      = flagged ((s.settings.pathEnable.get q).get y) (((storeItem p .pathEnable v s).settings.pathEnable.get q).get y)
          (pathRec s q y) := by
    rw [← pathRec_of_paths (storeItem_frame p .pathEnable v s .paths (by decide)) q y]
    exact pathRec_applyPathEnable _ _ q y
  rw [hpath, hflags]
  exact flagged_keeps_rule (hs q y)

theorem writeItem_keeps_pathsOk {p i v} : PathsOk (writeItem p i v s).state := by
  cases i
  case pathEnable => exact writePathEnable_keeps_pathsOk hs
  case clockPriority =>
    exact pathsOk_reads.kept (settle_frame _) (pathsOk_reads.kept (reselect_frame _) (storeItem_keeps_pathsOk hs rfl))
  case key => exact pathsOk_reads.kept (applyKeyConfig_frame _ _ _) (storeItem_keeps_pathsOk hs rfl)
  case alarm => exact pathsOk_reads.kept (driveLines_frame _) (storeItem_keeps_pathsOk hs rfl)
  case timeout => exact pathsOk_reads.kept (holdTimeout_frame _ _ _) (storeItem_keeps_pathsOk hs rfl)
  all_goals exact storeItem_keeps_pathsOk hs rfl

theorem handlerOf_keeps_pathsOk {before k p m} (htouch : Touches [.paths, .settings] (handlerBlocks k)) :
    PathsOk (handlerOf before k p m s).state := by
  cases k
  case writeSetting =>
    unfold handlerOf answerWriteSetting
    dsimp only
    split
    · exact hs
    · exact judged_state hs (writeItem_keeps_pathsOk hs)
  all_goals exact absurd htouch (by decide)

end

theorem pathsOk_reset (straps sig q) :
    PathsOk (((State.reset.withUnitAddr straps).withSignal sig).withPending q) := by
  intro p x
  have hrec : (State.reset.paths.get p).get x = PathRec.dark := by cases p <;> cases x <;> rfl
  have hflag : (State.reset.settings.pathEnable.get p).get x = true := by cases p <;> cases x <;> rfl
  simp only [State.withPending_fields, State.withSignal_fields, State.withUnitAddr_fields, hrec, hflag]
  exact pathRule_dark rfl rfl

/-- The receivers are reached by arrivals, their signal, their scores and PATH_ENABLE. -/
theorem pathsOk_kept : KeptByOperations PathsOk :=
  keptByOperations_of_touched pathsOk_reads
    (reset := pathsOk_reset)
    (handler := fun _ _ _ _ _ htouch _ hs => handlerOf_keeps_pathsOk hs htouch)
    (arriveFrame := fun _ _ _ _ _ hs => arriveFrame_keeps_pathsOk hs)
    (loseSignal := fun _ _ _ _ hs => loseSignal_keeps_pathsOk hs)
    (returnSignal := fun _ _ _ _ hs => returnSignal_keeps_pathsOk hs)
    (matchSync := fun _ _ _ _ _ hs => matchSync_keeps_pathsOk hs)
    (examineNext := fun _ _ _ _ _ hs => examineNext_keeps_pathsOk hs)
    (scorePath := fun _ _ _ _ hs => scorePath_keeps_pathsOk hs)

end Sys2Proof.Safety
end

section
/-! SUPPORT and PROOFS. The merge windows after each operation on them (R11 to R16, R18, R20, R21), and the statement that
every step keeps paths and windows. -/
namespace Sys2Proof.Safety

open Sys2Proof.Machine

/-! ## The rule of one window -/

/-- A slot holds only the frame at its own distance from P (R13). -/
def SlotsOk (m : Merge) : Prop :=
  ∀ (d : Fin 4) (c : Copy), (m.slots[d]'d.2) = some c → c.frameNo = m.playNo + BitVec.ofNat 12 d.val

/-- What `WindowsOk` asks of one merge, whose port is ONLINE or not. -/
def WindowRule (online : Bool) (m : Merge) : Prop :=
  SlotsOk m ∧ (m.hunting = true ∨ online = false → ∀ d : Fin 4, (m.slots[d]'d.2) = none)

theorem windowsOk_iff {s : State} : WindowsOk s ↔ ∀ p, WindowRule (online s p) (s.merges.get p) := Iff.rfl

theorem windowsOk_of_online {s t : State} (hs : WindowsOk s) (hmerges : t.merges = s.merges)
    (honline : ∀ p, online t p = online s p) : WindowsOk t := by
  intro p
  rw [hmerges, honline]
  exact hs p

theorem windowsOk_reads : Reads [.merges, .paths] WindowsOk := fun _ _ h hs =>
  windowsOk_of_online hs (h .merges (by decide)) (online_of_paths (h .paths (by decide)))

theorem windowsOk_setMerge {p : Port} {m : Merge} {s : State} (hs : WindowsOk s) (hm : WindowRule (online s p) m) :
    WindowsOk (setMerge p m s) := by
  intro q
  change WindowRule (online s q) ((s.merges.set p m).get q)
  rw [PerPort.get_set]
  split
  · rename_i h
    rw [h]
    exact hm
  · exact hs q

/-- An empty window is under the rule whatever P is. -/
theorem windowRule_empty {o : Bool} {m : Merge} (h : ∀ d : Fin 4, (m.slots[d]'d.2) = none) : WindowRule o m :=
  ⟨fun d c hc => absurd ((h d).symm.trans hc) (by simp), fun _ => h⟩

theorem windowRule_running {m : Merge} (hhunting : m.hunting = false) (hslots : SlotsOk m) : WindowRule true m :=
  ⟨hslots, fun h => by simp [hhunting] at h⟩

set_option Elab.async false in
/-- What a window holds is no matter of its runs, its held samples and its counts. -/
theorem WindowRule.of_same {o : Bool} {m m' : Merge} (h : WindowRule o m) (hslots : m'.slots = m.slots)
    (hplay : m'.playNo = m.playNo) (hhunting : m'.hunting = m.hunting) : WindowRule o m' := by
  rwa [WindowRule, SlotsOk, hslots, hplay, hhunting]

/-! ## Moving and filling a window -/

theorem slotsOk_vset {m : Merge} {d : Fin 4} {c : Copy} (hm : SlotsOk m)
    (hc : c.frameNo = m.playNo + BitVec.ofNat 12 d.val) : SlotsOk { m with slots := vset m.slots d (some c) } := by
  intro e held he
  change ((vset m.slots d (some c))[e]'e.2) = some held at he
  rw [vset_get] at he
  split at he
  · rename_i hed
    obtain rfl := Option.some.inj he
    rw [hed]
    exact hc
  · exact hm e held he

theorem slotsOk_recentre (c : Copy) (m : Merge) : SlotsOk (recentre c m) := by
  have hempty : SlotsOk { m with slots := Vector.replicate 4 none, playNo := c.frameNo - 2 } :=
    (windowRule_empty (o := true) fun d => by simp).1
  refine slotsOk_vset hempty ?_
  change c.frameNo = c.frameNo - 2#12 + 2#12
  exact (BitVec.sub_add_cancel _ _).symm

theorem slotsOk_advance {m : Merge} (hm : SlotsOk m) (k : Nat) : SlotsOk (advance k m) := by
  intro d c hc
  have hget : ((advance k m).slots[d]'d.2) = if h : d.val + k < 4 then m.slots[d.val + k] else none := by simp [advance]
  rw [hget] at hc
  split at hc
  · rename_i h
    rw [hm ⟨d.val + k, h⟩ c hc]
    change m.playNo + BitVec.ofNat 12 (d.val + k) = m.playNo + BitVec.ofNat 12 k + BitVec.ofNat 12 d.val
    rw [Nat.add_comm, BitVec.ofNat_add, BitVec.add_assoc]
  · exact absurd hc (by simp)

/-- The frame at a distance from P is the one numbered so (R13). -/
theorem frameNo_of_distance (m : Merge) (c : Copy) :
    c.frameNo = m.playNo + BitVec.ofNat 12 (distance m c.frameNo) := by
  rw [distance, BitVec.ofNat_toNat, BitVec.setWidth_eq, BitVec.add_comm, BitVec.sub_add_cancel]

theorem slotsOk_placeInSlot {m : Merge} {c : Copy} (hm : SlotsOk m) {d : Fin 4} (hd : distance m c.frameNo = d.val) :
    SlotsOk (placeInSlot d c m) := by
  have hplaced : SlotsOk { m with slots := vset m.slots d (some c) } :=
    slotsOk_vset hm (hd ▸ frameNo_of_distance m c)
  unfold placeInSlot
  split
  · exact hplaced
  · split
    · exact hplaced
    · exact hm

theorem slotsOk_slipTo {m : Merge} {c : Copy} (hm : SlotsOk m) (hd : 3 ≤ distance m c.frameNo) :
    SlotsOk (slipTo (distance m c.frameNo) c m) := by
  have hmoved : SlotsOk (advance (distance m c.frameNo - 3) m) := slotsOk_advance hm _
  refine slotsOk_vset (m := advance (distance m c.frameNo - 3) m) (d := 3) hmoved ?_
  change c.frameNo = m.playNo + BitVec.ofNat 12 (distance m c.frameNo - 3) + BitVec.ofNat 12 3
  rw [BitVec.add_assoc, ← BitVec.ofNat_add, Nat.sub_add_cancel hd]
  exact frameNo_of_distance m c

theorem placeInSlot_hunting (d : Fin 4) (c : Copy) (m : Merge) : (placeInSlot d c m).hunting = m.hunting := by
  unfold placeInSlot
  split
  · rfl
  · split <;> rfl

/-- A copy placed in the window of an ONLINE port (R14, R15, R16, R21). -/
theorem placeCopy_keeps_windowsOk {p : Port} {c : Copy} {s : State} (hs : WindowsOk s) (honline : online s p = true) :
    WindowsOk (placeCopy p c s) := by
  have hset {m : Merge} (hm : WindowRule true m) : WindowsOk (setMerge p m s) :=
    windowsOk_setMerge hs (honline ▸ hm)
  have hslots : SlotsOk (s.merges.get p) := (hs p).1
  unfold placeCopy
  dsimp only
  split
  · exact hset (windowRule_running rfl (slotsOk_recentre _ _))
  · rename_i hrunning
    have hrunning : (s.merges.get p).hunting = false := Bool.eq_false_iff.mpr hrunning
    split
    · exact hset (windowRule_running ((placeInSlot_hunting _ _ _).trans hrunning) (slotsOk_placeInSlot hslots rfl))
    · split
      · exact windowsOk_reads.kept (raiseAll_frame _ _)
          (hset (windowRule_running hrunning (slotsOk_slipTo hslots (by omega))))
      · exact hset (windowRule_running hrunning hslots)

/-! ## The operations that reach the windows -/

section
variable {s : State} (hs : WindowsOk s)
include hs

theorem setPath_keeps_windowsOk {p x r} (h : ∀ q, online (setPath p x r s) q = online s q) :
    WindowsOk (setPath p x r s) := windowsOk_of_online hs rfl h

theorem takeArrival_keeps_windowsOk {p x c} : WindowsOk (takeArrival p x c s) := by
  have hcarrying (r : PathRec) (h : carries (pathRec s p x) = true) (hr : r.state = (pathRec s p x).state) :
      WindowsOk (placeCopy p c (setPath p x r s)) := by
    have hsame := online_setPath_of_state hr
    exact placeCopy_keeps_windowsOk (setPath_keeps_windowsOk hs hsame) ((hsame p).trans (online_of_carries x h))
  have hacquire (r : PathRec) (hr : (acquireArrival c r).state = .acquire) (h : carries (pathRec s p x) = false) :
      WindowsOk (setPath p x (acquireArrival c r) s) :=
    setPath_keeps_windowsOk hs (online_setPath_of_same (by rw [h, carries, hr]; rfl))
  have hstate (r : PathRec) : (acquireArrival c r).state = r.state := by
    unfold acquireArrival
    dsimp only
    split <;> rfl
  unfold takeArrival
  dsimp only
  split
  case h_1 => exact hs
  case h_2 hdark => exact hacquire _ (hstate _) (by rw [carries, hdark]; rfl)
  case h_3 hacq => exact hacquire _ ((hstate _).trans hacq) (by rw [carries, hacq]; rfl)
  case h_4 hup => exact hcarrying _ (by rw [carries, hup]; rfl) rfl
  case h_5 hdegraded => exact hcarrying _ (by rw [carries, hdegraded]; rfl) rfl

theorem arriveFrame_keeps_windowsOk {p x f} : WindowsOk (arriveFrame p x f s) := by
  unfold arriveFrame
  split
  · exact windowsOk_reads.kept (settle_frame _) (takeArrival_keeps_windowsOk (windowsOk_reads.kept (endPeriod_frame _ _ _)
      (setPath_keeps_windowsOk hs (online_setPath_rx p x _ s))))
  · exact hs

set_option Elab.async false in
theorem goOffline_windowsOk {old p x r} :
    WindowsOk (goOffline old p (setPath p x r s)) := by
  have hmerges : (goOffline old p (setPath p x r s)).merges = s.merges.set p (s.merges.get p).offline := by
    unfold goOffline
    dsimp only
    rw [settle_merges, reselect_frame _ .merges (by decide), followOutputs_frame _ _ .merges (by decide)]
    rfl
  intro q
  change WindowRule _ _
  rw [goOffline_online, hmerges, PerPort.get_set]
  split
  · exact windowRule_empty fun d => by simp [Merge.offline]
  · rename_i hq
    rw [online_setPath_other _ _ _ _ hq]
    exact hs q

theorem leaveCarrying_keeps_windowsOk {p x r} (hcarries : carries (pathRec s p x) = true) :
    WindowsOk (leaveCarrying p x r s) := by
  unfold leaveCarrying
  dsimp only
  split
  · rename_i hstays
    have hset : WindowsOk (setPath p x r s) := by
      refine setPath_keeps_windowsOk hs fun q => ?_
      by_cases hq : q = p
      · rw [hq, hstays, online_of_carries x hcarries]
      · exact online_setPath_other _ _ _ _ hq
    split
    · exact windowsOk_reads.kept (moveReference_frame _ _ _) hset
    · exact hset
  · exact goOffline_windowsOk hs

/-- A port that goes ONLINE finds its window empty, or re-centred on the acquisition frame (R11). -/
theorem goUp_keeps_windowsOk {p x n} : WindowsOk (goUp p x n s) := by
  have honlineSet : online (setPath p x (upReceiver p x n s) s) p = true := by
    rw [online_setPath_self]
    rfl
  by_cases honline : online s p = true
  · have hset : WindowsOk (setPath p x (upReceiver p x n s) s) := by
      refine setPath_keeps_windowsOk hs fun q => ?_
      by_cases hq : q = p
      · rw [hq, honlineSet, honline]
      · exact online_setPath_other _ _ _ _ hq
    unfold goUp
    dsimp only
    rw [if_pos honline]
    split
    · exact placeCopy_keeps_windowsOk hset honlineSet
    · exact hset
  · have hempty : ∀ d : Fin 4, ((s.merges.get p).slots[d]'d.2) = none := (hs p).2 (.inr (Bool.eq_false_iff.mpr honline))
    have hset : WindowsOk (setPath p x (upReceiver p x n s) s) := by
      intro q
      by_cases hq : q = p
      · rw [hq]
        exact windowRule_empty hempty
      · rw [online_setPath_other _ _ _ _ hq]
        exact hs q
    unfold goUp goOnline
    dsimp only
    rw [if_neg honline]
    refine windowsOk_reads.kept (reselect_frame _) (windowsOk_reads.kept (withLatch_frame _ _)
      (windowsOk_reads.kept (setMonitor_frame _ _ _) ?_))
    split
    · exact windowsOk_setMerge hset (honlineSet ▸ windowRule_running rfl (slotsOk_recentre _ _))
    · exact hset

theorem scorePath_keeps_windowsOk {p x} : WindowsOk (scorePath p x s) := by
  have hcarrying (h : carries (pathRec s p x) = true) : WindowsOk (settle (scoreCarrying p x s)) := by
    refine windowsOk_reads.kept (settle_frame _) ?_
    obtain hdark | ⟨r, hstays, hr⟩ := scoreCarrying_cases h
    · rw [hdark]
      exact leaveCarrying_keeps_windowsOk hs h
    · rw [hstays]
      exact setPath_keeps_windowsOk hs (online_setPath_of_same (hr.trans h.symm))
  unfold scorePath
  split
  case h_1 | h_2 => exact hs
  case h_3 hacquire =>
    refine windowsOk_reads.kept (settle_frame _) ?_
    obtain ⟨n, hup⟩ | ⟨r, hstays, hr⟩ := scoreAcquire_cases hacquire
    · rw [hup]
      exact goUp_keeps_windowsOk hs
    · rw [hstays]
      refine setPath_keeps_windowsOk hs (online_setPath_of_same ?_)
      rw [carries, carries, hacquire]
      rcases hr with hr | hr
      · rw [hr]; rfl
      · rw [hr]
  case h_4 hup => exact hcarrying (by rw [carries, hup]; rfl)
  case h_5 hdegraded => exact hcarrying (by rw [carries, hdegraded]; rfl)

theorem writePathFlag_keeps_windowsOk {a b p x} : WindowsOk (writePathFlag a b p x s) := by
  unfold writePathFlag
  split
  · unfold disablePath
    dsimp only
    split
    · rename_i hcarries
      exact leaveCarrying_keeps_windowsOk hs hcarries
    · rename_i hidle
      exact setPath_keeps_windowsOk hs (online_setPath_of_same (by rw [Bool.eq_false_iff.mpr hidle]; rfl))
  · unfold enablePath
    split
    · rename_i hdisabled
      refine setPath_keeps_windowsOk hs (online_setPath_of_same ?_)
      rw [carries, carries, show (pathRec s p x).state = .disabled by simpa using hdisabled]
      rfl
    · exact hs
  · exact hs

theorem applyItem_keeps_windowsOk {i old} : WindowsOk (applyItem i old s) := by
  cases i
  case pathEnable =>
    exact windowsOk_reads.kept (settle_frame _) (foldl_keeps (I := WindowsOk) (fun _ _ h =>
      foldl_keeps (I := WindowsOk) (fun _ _ h => writePathFlag_keeps_windowsOk h) _ _ h) _ _ hs)
  case key => exact windowsOk_reads.kept (applyKeyConfig_frame _ _ _) hs
  case timeout => exact windowsOk_reads.kept (holdTimeout_frame _ _ _) hs
  all_goals exact hs

theorem handlerOf_keeps_windowsOk {before k p m} (htouch : Touches [.merges, .paths] (handlerBlocks k)) :
    WindowsOk (handlerOf before k p m s).state := by
  cases k
  case writeSetting =>
    unfold handlerOf answerWriteSetting
    dsimp only
    split
    · exact hs
    · exact judged_state hs (applyItem_keeps_windowsOk (windowsOk_reads.kept (storeItem_frame _ _ _ _) hs))
  all_goals exact absurd htouch (by decide)

/-! ## Playouts -/

theorem deliverAudio_keeps_windowsOk {p c} (honline : online s p = true) (hrunning : (s.merges.get p).hunting = false) :
    WindowsOk (settle (followOutputs s (setHandoff p (deliveredAudio c)
      (setMerge p (delivered c (s.merges.get p)) s)))) := by
  have hmoved : WindowRule (online s p) (delivered c (s.merges.get p)) :=
    honline ▸ windowRule_running hrunning (slotsOk_advance (hs p).1 1)
  exact windowsOk_reads.kept (settle_frame _) (windowsOk_reads.kept (followOutputs_frame _ _)
    (windowsOk_reads.kept (setHandoff_frame _ _ _) (windowsOk_setMerge hs hmoved)))

theorem resyncWindow_keeps_windowsOk {p} : WindowsOk (resyncWindow p s) :=
  windowsOk_reads.kept (raiseAll_frame _ _) (windowsOk_setMerge hs (windowRule_empty fun d => by simp))

theorem missFrame_keeps_windowsOk {p} (honline : online s p = true) : WindowsOk (missFrame p s) := by
  have hhandoff (h : Handoff) : WindowsOk (setHandoff p h s) := windowsOk_reads.kept (setHandoff_frame p h s) hs
  unfold missFrame
  dsimp only
  refine windowsOk_reads.kept (dropPartial_frame _ _) ?_
  split
  · exact windowsOk_setMerge (hhandoff _) (WindowRule.of_same (hs p) rfl rfl rfl)
  · rename_i hrunning
    have hmoved : WindowRule (online s p) { advance 1 (s.merges.get p) with
        missRun := min 4 ((s.merges.get p).missRun + 1), emptyRun := (s.merges.get p).emptyRun + 1 } :=
      honline ▸ windowRule_running (Bool.eq_false_iff.mpr hrunning) (slotsOk_advance (hs p).1 1)
    split
    · exact resyncWindow_keeps_windowsOk (windowsOk_setMerge (hhandoff _) hmoved)
    · exact windowsOk_setMerge (hhandoff _) hmoved

end

theorem windowsOk_reset (straps sig q) :
    WindowsOk (((State.reset.withUnitAddr straps).withSignal sig).withPending q) := by
  intro p
  have hmerge : State.reset.merges.get p = Merge.atReset := by cases p <;> rfl
  simp only [State.withPending_fields, State.withSignal_fields, State.withUnitAddr_fields, hmerge]
  exact windowRule_empty fun d => by simp [Merge.atReset]

/-- The windows are reached by arrivals, by playouts and where a port goes ONLINE or OFFLINE. -/
theorem windowsOk_kept : KeptByOperations WindowsOk :=
  keptByOperations_of_touched windowsOk_reads
    (reset := windowsOk_reset)
    (handler := fun _ _ _ _ _ htouch _ hs => handlerOf_keeps_windowsOk hs htouch)
    (arriveFrame := fun _ _ _ _ _ hs => arriveFrame_keeps_windowsOk hs)
    (loseSignal := fun _ _ _ _ hs =>
      windowsOk_of_online hs (loseSignal_frame _ _ _ .merges (by decide)) (loseSignal_online _ _ _))
    (returnSignal := fun _ _ _ _ hs =>
      windowsOk_of_online hs (returnSignal_frame _ _ _ .merges (by decide)) (returnSignal_online _ _ _))
    (matchSync := fun _ _ _ _ _ hs =>
      windowsOk_of_online hs (matchSync_frame _ _ _ _ .merges (by decide)) (matchSync_online _ _ _ _))
    (examineNext := fun _ _ _ _ _ hs =>
      windowsOk_of_online hs (examineNext_frame _ _ _ _ .merges (by decide)) (examineNext_online _ _ _ _))
    (scorePath := fun _ _ _ _ hs => scorePath_keeps_windowsOk hs)
    (deliverAudio := fun _ _ _ _ honline _ hrunning hs => deliverAudio_keeps_windowsOk hs honline hrunning)
    (missFrame := fun _ _ _ honline hs => missFrame_keeps_windowsOk hs honline)

set_option Elab.async false in
/-- Settles O58: the receivers and the windows each keep their rule, neither with the help of the other's. -/
theorem stepKeepsThePathsAndWindows : Obligations.StepKeepsThePathsAndWindows := fun _ _ ⟨hpaths, hwindows⟩ he =>
  ⟨pathsOk_kept.step he hpaths, windowsOk_kept.step he hwindows⟩

end Sys2Proof.Safety
end

section
/-! SUPPORT and PROOFS. The keys and the call table after each operation on them (R163 to R165, R170 to R174), and the
statement that every step keeps the call table. -/
namespace Sys2Proof.Safety

open Sys2Proof.Machine

/-! ## One entry after a write -/

theorem setKey_get (k : KeyId) (r s) (j : KeyId) : ((setKey k r s).keys[j]'j.2) = if j = k then r else (s.keys[j]'j.2) :=
  vset_get _ _ _ _

theorem setCall_get (p k c s) (q : Port) (j : KeyId) :
    (((setCall p k c s).calls.get q)[j]'j.2) = if q = p ∧ j = k then c else ((s.calls.get q)[j]'j.2) := by
  have hport : (setCall p k c s).calls.get q = if q = p then vset (s.calls.get p) k c else s.calls.get q :=
    PerPort.get_set _ _ _ _
  rw [hport]
  by_cases hq : q = p
  · subst hq
    simp [vset_getElem, Fin.ext_iff, eq_comm]
  · simp [hq]

/-! ## The rule of one key -/

/-- A clear entry of the call table. -/
def clearEntry : Call := { pending := false, acked := false }

/-- What `CallsOk` asks of a key's call at one port: the key's configuration and the port's presence given. -/
def CallRule (cfg : KeyConfig) (p : Port) (present : Bool) (c : Call) : Prop :=
  (c.pending = true → cfg.enabled = true ∧ cfg.ports.get p = true ∧ present = true)
  ∧ (c.acked = true → c.pending = true) ∧ (c.ending = true → c.acked = true)

/-- What `CallsOk` asks of a key's state. -/
def KeyRule (cfg : KeyConfig) (k : Key) : Prop := k.state = .disabled ↔ cfg.enabled = false

theorem callsOk_iff {s : State} : CallsOk s ↔
    (∀ k : KeyId, KeyRule (s.settings.keys[k]'k.2) (s.keys[k]'k.2))
      ∧ ∀ (k : KeyId) p, CallRule (s.settings.keys[k]'k.2) p (s.presence.get p).present ((s.calls.get p)[k]'k.2) :=
  ⟨fun h => ⟨fun k => (h k).1, fun k => (h k).2⟩, fun h k => ⟨h.1 k, h.2 k⟩⟩

theorem callRule_clear {cfg p present} : CallRule cfg p present clearEntry := ⟨nofun, nofun, nofun⟩

theorem callsOk_reads : Reads [.keys, .calls, .settings, .presence] CallsOk := by
  intro s t h hs k
  have hk : t.keys = s.keys := h .keys (by decide)
  have hc : t.calls = s.calls := h .calls (by decide)
  have hset : t.settings = s.settings := h .settings (by decide)
  have hp : t.presence = s.presence := h .presence (by decide)
  rw [hk, hc, hset, hp]
  exact hs k

/-- One key replaced by one in a state that its configuration allows. -/
theorem callsOk_setKey {k : KeyId} {r : Key} {s : State} (hs : CallsOk s) (hr : KeyRule (s.settings.keys[k]'k.2) r) :
    CallsOk (setKey k r s) := by
  refine callsOk_iff.mpr ⟨fun j => ?_, (callsOk_iff.mp hs).2⟩
  rw [setKey_get]
  split
  · rename_i h
    rw [h]
    exact hr
  · exact (hs j).1

/-- One call replaced. -/
theorem callsOk_setCall {p : Port} {k : KeyId} {c : Call} {s : State} (hs : CallsOk s)
    (hc : CallRule (s.settings.keys[k]'k.2) p (s.presence.get p).present c) : CallsOk (setCall p k c s) := by
  refine callsOk_iff.mpr ⟨fun j => (hs j).1, fun j q => ?_⟩
  rw [setCall_get]
  split
  · rename_i h
    rw [h.1, h.2]
    exact hc
  · exact (hs j).2 q

/-- Every port's call of every key is as it was or clear. -/
def CallsCleared (s t : State) : Prop :=
  ∀ p (k : KeyId), ((t.calls.get p)[k]'k.2) = ((s.calls.get p)[k]'k.2) ∨ ((t.calls.get p)[k]'k.2) = clearEntry

/-- A port's presence replaced while its calls stay or clear: it is PRESENT where one stays pending. -/
theorem callsOk_of_cleared {s t : State} (hs : CallsOk s) (hkeys : t.keys = s.keys) (hsettings : t.settings = s.settings)
    (hcalls : CallsCleared s t)
    (hpresent : ∀ p (k : KeyId), ((t.calls.get p)[k]'k.2).pending = true → (s.presence.get p).present = true →
      (t.presence.get p).present = true) : CallsOk t := by
  refine callsOk_iff.mpr ⟨fun k => by rw [hsettings, hkeys]; exact (hs k).1, fun k p => ?_⟩
  have hpresent := hpresent p k
  rw [hsettings]
  rcases hcalls p k with h | h <;> rw [h] at hpresent ⊢
  · obtain ⟨hpending, hacked, hending⟩ := (hs k).2 p
    exact ⟨fun hc => ⟨(hpending hc).1, (hpending hc).2.1, hpresent hc (hpending hc).2.2⟩, hacked, hending⟩
  · exact callRule_clear

theorem setPresence_present_get (p r s) (q : Port) :
    ((setPresence p r s).presence.get q).present = if q = p then r.present else (s.presence.get q).present := by
  have h : (setPresence p r s).presence.get q = if q = p then r else s.presence.get q := PerPort.get_set _ _ _ _
  rw [h]
  split <;> rfl

/-- A port whose presence is replaced by one that is PRESENT where it was. -/
theorem callsOk_setPresence {p : Port} {r : Presence} {s : State} (hs : CallsOk s)
    (h : (s.presence.get p).present = true → r.present = true) : CallsOk (setPresence p r s) := by
  refine callsOk_of_cleared hs rfl rfl (fun _ _ => .inl rfl) fun q k _ hq => ?_
  rw [setPresence_present_get]
  split
  · rename_i he
    exact h (he ▸ hq)
  · exact hq

/-! ## What an expiry writes (R57, R58) -/

theorem expire_presence (p : Port) (s : State) :
    (expire p s).presence = s.presence.set p { present := false, running := false, elapsed := 0 } := by
  unfold expire
  dsimp only
  rw [settle_frame _ .presence (by decide), clearCallsAt_frame _ _ .presence (by decide),
    withTalkMask_frame _ _ .presence (by decide)]
  split
  · exact releaseAll_frame _ _ .presence (by decide)
  · rfl

set_option Elab.async false in
theorem expire_calls (p : Port) (s : State) :
    (expire p s).calls = s.calls.set p (Vector.replicate 4 clearEntry) := by
  have hcalls (t : State) : (settle (clearCallsAt p (t.withTalkMask (t.talkMask.set p 0)))).calls
      = t.calls.set p (Vector.replicate 4 clearEntry) := settle_frame _ .calls (by decide)
  unfold expire
  dsimp only
  rw [hcalls]
  split
  · rw [releaseAll_frame _ _ .calls (by decide)]
    rfl
  · rfl

theorem expire_talkMask (p : Port) (s : State) : (expire p s).talkMask = s.talkMask.set p 0 := by
  unfold expire
  dsimp only
  have hset (t : State) : (t.withTalkMask (t.talkMask.set p 0)).talkMask = t.talkMask.set p 0 := rfl
  rw [settle_frame _ .talkMask (by decide), clearCallsAt_frame _ _ .talkMask (by decide), hset]
  split
  · rw [releaseAll_frame _ _ .talkMask (by decide)]
    rfl
  · rfl

/-! ## A key's calls at the three ports -/

/-- Calls of a key written at every port at which a condition holds, that the writes at the other ports leave as it is. -/
theorem foldl_setCall_get {k : KeyId} {cond : State → Port → Bool} {v : Call}
    (hsame : ∀ s p q, q ≠ p → cond (setCall p k v s) q = cond s q) (s : State) (q : Port) (j : KeyId) :
    (((ports.foldl (fun s p => if cond s p then setCall p k v s else s) s).calls.get q)[j]'j.2)
      = if j = k ∧ cond s q = true then v else ((s.calls.get q)[j]'j.2) := by
  have h := foldl_read (f := fun s p => if cond s p then setCall p k v s else s)
    (fun t p => ((t.calls.get p)[j]'j.2)) (fun t p => if j = k ∧ cond t p = true then v else ((t.calls.get p)[j]'j.2))
    (fun t p => by
      split
      · rename_i hc
        rw [setCall_get]
        simp [hc]
      · rename_i hc
        simp [hc])
    (fun t p r hr => by
      split
      · rw [setCall_get, if_neg fun h => hr h.1]
      · rfl)
    (fun t p r hr => by
      by_cases hc : cond t p = true
      · rw [if_pos hc, hsame t p r hr, setCall_get, if_neg fun h : r = p ∧ j = k => hr h.1]
      · rw [if_neg hc])
    ports_nodup s q
  rw [if_pos (mem_ports q)] at h
  exact h

/-- A key's calls raised: at the ports of its mask that are PRESENT and whose entry is clear (R170). -/
theorem raiseCalls_get (k : KeyId) (s : State) (q : Port) (j : KeyId) :
    (((ports.foldl (raiseCallAt k) s).calls.get q)[j]'j.2)
      = if j = k ∧ ((keyConfig s k).ports.get q && (s.presence.get q).present && !((s.calls.get q)[k]'k.2).pending)
          = true then
          { pending := true, acked := false }
        else ((s.calls.get q)[j]'j.2) :=
  foldl_setCall_get (cond := fun s p =>
      (keyConfig s k).ports.get p && (s.presence.get p).present && !((s.calls.get p)[k]'k.2).pending)
    (fun s p q hq => by
      rw [setCall_get, if_neg fun h => hq h.1]
      rfl) s q j

/-- A key's acknowledged calls cleared at its release (R171). -/
theorem releaseCalls_get (k : KeyId) (s : State) (q : Port) (j : KeyId) :
    (((ports.foldl (releaseCallAt k) s).calls.get q)[j]'j.2)
      = if j = k ∧ (((s.calls.get q)[k]'k.2).pending && ((s.calls.get q)[k]'k.2).acked) = true then clearEntry
        else ((s.calls.get q)[j]'j.2) :=
  foldl_setCall_get (cond := fun s p => ((s.calls.get p)[k]'k.2).pending && ((s.calls.get p)[k]'k.2).acked)
    (fun s p q hq => by
      rw [setCall_get, if_neg fun h => hq h.1]) s q j

/-- A key's calls cleared at the ports of a list (R165). -/
theorem clearCalls_get (k : KeyId) (cond : Port → Bool) (s : State) (q : Port) (j : KeyId) :
    (((ports.foldl (fun s p => if cond p then clearCall k s p else s) s).calls.get q)[j]'j.2)
      = if j = k ∧ cond q = true then clearEntry else ((s.calls.get q)[j]'j.2) :=
  foldl_setCall_get (cond := fun _ p => cond p) (fun _ _ _ _ => rfl) s q j

/-! ## A write of KEY_CONFIG (R165) -/

/-- A key after a write of its KEY_CONFIG (R165). -/
def configuredKey (old new : KeyConfig) (r : Key) : Key :=
  if new.enabled = false then { r with state := .disabled, toggle := false }
  else if r.state = .disabled then { r with state := .arming, toggle := false }
  else if new.latch ≠ old.latch then { r with toggle := false }
  else r

theorem vset_self {α : Type} {n : Nat} (v : Vector α n) (i : Fin n) : vset v i (v[i]'i.2) = v := by
  ext j hj
  rw [vset_getElem]
  split
  · rename_i h
    subst h
    rfl
  · rfl

theorem clearCalls_frame (k : KeyId) (cond : Port → Bool) (s : State) :
    SameExcept [.calls] s (ports.foldl (fun s p => if cond p then clearCall k s p else s) s) :=
  SameExcept.foldl (fun _ _ => SameExcept.ite (clearCall_frame _ _ _) (.refl _ _)) _ _

theorem applyKeyConfig_keys (k : KeyId) (old : KeyConfig) (s : State) :
    (applyKeyConfig k old s).keys = vset s.keys k (configuredKey old (keyConfig s k) (s.keys[k]'k.2)) := by
  unfold applyKeyConfig
  dsimp only
  rw [clearCalls_frame _ _ _ .keys (by decide)]
  unfold configuredKey
  cases henabled : (keyConfig s k).enabled
  · simp only [Bool.not_false, if_true]
    exact SameExcept.foldl (fun _ _ => clearCall_frame _ _ _) _ _ .keys (by decide)
  · simp only [Bool.not_true, Bool.false_eq_true, if_false, reduceCtorEq]
    simp only [beq_iff_eq, bne_iff_ne]
    by_cases hstate : (s.keys[k]'k.2).state = .disabled
    · rw [if_pos hstate, if_pos hstate]
      rfl
    · rw [if_neg hstate, if_neg hstate]
      by_cases hlatch : (keyConfig s k).latch ≠ old.latch
      · rw [if_pos hlatch, if_pos hlatch]
        rfl
      · rw [if_neg hlatch, if_neg hlatch]
        exact (vset_self _ _).symm

theorem applyKeyConfig_calls_get (k : KeyId) (old : KeyConfig) (s : State) (q : Port) (j : KeyId) :
    (((applyKeyConfig k old s).calls.get q)[j]'j.2)
      = if j = k ∧ ((keyConfig s k).enabled = false ∨ old.ports.get q = true ∧ (keyConfig s k).ports.get q = false) then
          clearEntry
        else ((s.calls.get q)[j]'j.2) := by
  unfold applyKeyConfig
  dsimp only
  rw [clearCalls_get k fun p => old.ports.get p && !(keyConfig s k).ports.get p]
  cases henabled : (keyConfig s k).enabled
  · have hclear := clearCalls_get k (fun _ => true)
        (setKey k { (s.keys[k]'k.2) with state := .disabled, toggle := false } s) q j
    simp only [if_true] at hclear
    simp only [Bool.not_false, if_true]
    rw [hclear]
    by_cases hj : j = k
    · simp [hj]
    · simp [hj]
      rfl
  · simp only [Bool.not_true, Bool.false_eq_true, if_false, reduceCtorEq, false_or, Bool.and_eq_true, Bool.not_eq_true']
    congr 1
    split
    · rfl
    · split <;> rfl

theorem configuredKey_rule {old new : KeyConfig} {r : Key} : KeyRule new (configuredKey old new r) := by
  unfold configuredKey
  split
  · rename_i hclear
    exact ⟨fun _ => hclear, fun _ => rfl⟩
  · rename_i hset
    split
    · exact ⟨nofun, fun h => absurd h hset⟩
    · rename_i hstate
      split <;> exact ⟨fun h => absurd h hstate, fun h => absurd h hset⟩

section
variable {s : State} (hs : CallsOk s)
include hs

/-! ## The keys -/

theorem clearCall_keeps_callsOk {k p} : CallsOk (clearCall k s p) := callsOk_setCall hs callRule_clear

set_option Elab.async false in
/-- A call is raised for an enabled key alone (R170). -/
theorem raiseCallAt_keeps_callsOk {k : KeyId} {p} (henabled : (s.settings.keys[k]'k.2).enabled = true) :
    CallsOk (raiseCallAt k s p) := by
  unfold raiseCallAt
  split
  · rename_i hraised
    simp only [Bool.and_eq_true] at hraised
    obtain ⟨⟨hmask, hpresent⟩, -⟩ := hraised
    exact callsOk_setCall hs ⟨fun _ => ⟨henabled, hmask, hpresent⟩, nofun, nofun⟩
  · exact hs

theorem releaseCallAt_keeps_callsOk {k p} : CallsOk (releaseCallAt k s p) := by
  unfold releaseCallAt
  split
  · exact clearCall_keeps_callsOk hs
  · exact hs

/-- A key that was not DISABLED goes to a state that is not. -/
theorem setKey_enabled_keeps_callsOk {k : KeyId} {r : Key} (hold : (s.keys[k]'k.2).state ≠ .disabled)
    (hnew : r.state ≠ .disabled) :
    CallsOk (setKey k r s) :=
  callsOk_setKey hs ⟨fun h => absurd h hnew, fun h => absurd ((hs k).1.mpr h) hold⟩

theorem pressKey_keeps_callsOk {k} : CallsOk (pressKey k s) := by
  unfold pressKey
  dsimp only
  split
  · rename_i hreleased
    have henabled : s.settings.keys[k].enabled = true :=
      Bool.of_not_eq_false fun h => absurd ((hs k).1.mpr h) (by rw [hreleased]; simp)
    have hpressed : CallsOk (setKey k { s.keys[k] with
        state := .pressed
        toggle := if (keyConfig s k).latch then !s.keys[k].toggle else s.keys[k].toggle } s) :=
      setKey_enabled_keeps_callsOk hs (by rw [hreleased]; simp) (by simp)
    exact (foldl_keeps (I := fun t => CallsOk t ∧ t.settings.keys[k].enabled = true) (fun t p ht =>
      ⟨raiseCallAt_keeps_callsOk ht.1 ht.2, by rw [raiseCallAt_frame _ _ _ .settings (by decide)]; exact ht.2⟩) ports _
      ⟨hpressed, henabled⟩).1
  all_goals exact hs

theorem releaseKey_keeps_callsOk {k} : CallsOk (releaseKey k s) := by
  unfold releaseKey
  dsimp only
  split
  · rename_i harming
    exact setKey_enabled_keeps_callsOk hs (by rw [harming]; simp) (by simp)
  · rename_i hpressed
    exact foldl_keeps (I := CallsOk) (fun _ _ h => releaseCallAt_keeps_callsOk h) _ _
      (setKey_enabled_keeps_callsOk hs (by rw [hpressed]; simp) (by simp))
  all_goals exact hs

/-- A key's debounced level, its count and its toggle are no matter of the rule. -/
theorem setKey_same_keeps_callsOk {k : KeyId} {r : Key} (h : r.state = (s.keys[k]'k.2).state) : CallsOk (setKey k r s) :=
  callsOk_setKey hs (by rw [KeyRule, h]; exact (hs k).1)

theorem leaveArming_keeps_callsOk {k} : CallsOk (leaveArming k s) := by
  unfold leaveArming
  dsimp only
  split
  · rename_i h
    simp only [Bool.and_eq_true, beq_iff_eq] at h
    exact setKey_enabled_keeps_callsOk hs (by rw [h.1]; simp) (by simp)
  · exact hs

theorem debounce_keeps_callsOk {k} : CallsOk (debounce k s) := by
  unfold debounce
  dsimp only
  split
  · exact setKey_same_keeps_callsOk hs rfl
  · split
    · have hlevel : CallsOk (setKey k { (s.keys[k]'k.2) with down := (s.latch.keyLow[k]'k.2), stab := 0 } s) :=
        setKey_same_keeps_callsOk hs rfl
      split
      · exact pressKey_keeps_callsOk hlevel
      · exact releaseKey_keeps_callsOk hlevel
    · exact setKey_same_keeps_callsOk hs rfl

theorem keyWork_keeps_callsOk {k} : CallsOk (keyWork k s) := leaveArming_keeps_callsOk (debounce_keeps_callsOk hs)

/-! ## Presence -/

theorem heard_keeps_callsOk {p} : CallsOk (heard p s) :=
  callsOk_reads.kept (settle_frame _) (callsOk_setPresence hs fun _ => rfl)

theorem endCalls_keeps_callsOk {p} : CallsOk (endCalls p s) := by
  refine callsOk_of_cleared hs rfl rfl (fun q k => ?_) fun _ _ _ h => h
  have hget : (endCalls p s).calls.get q = if q = p then
      Vector.ofFn fun k : KeyId => if ((s.calls.get p)[k]'k.2).ending then { pending := false, acked := false }
        else ((s.calls.get p)[k]'k.2) else s.calls.get q := PerPort.get_set _ _ _ _
  rw [hget]
  by_cases hq : q = p
  · rw [if_pos hq, hq, Fin.getElem_fin, Vector.getElem_ofFn]
    by_cases hending : ((s.calls.get p)[k]'k.2).ending = true
    · exact .inr (if_pos hending)
    · exact .inl (if_neg hending)
  · rw [if_neg hq]
    exact .inl rfl

/-- An expiring port's calls are cleared as it goes ABSENT (R57, R173). -/
theorem expire_keeps_callsOk {p} : CallsOk (expire p s) := by
  have hcall (q : Port) (k : KeyId) : (((expire p s).calls.get q)[k]'k.2) = if q
      = p then clearEntry else ((s.calls.get q)[k]'k.2) := by
    rw [expire_calls, PerPort.get_set]
    split
    · exact Vector.getElem_replicate ..
    · rfl
  refine callsOk_of_cleared hs (expire_frame p s .keys (by decide)) (expire_frame p s .settings (by decide))
    (fun q k => ?_) fun q k hpending hq => ?_
  · rw [hcall]
    split
    · exact .inr rfl
    · exact .inl rfl
  · rw [hcall] at hpending
    rw [expire_presence, PerPort.get_set]
    split
    · rename_i h
      rw [if_pos h] at hpending
      exact absurd hpending (by decide)
    · exact hq

set_option Elab.async false in
theorem countPresence_keeps_callsOk {p} : CallsOk (countPresence p s) := by
  have hended : CallsOk (endCalls p s) := endCalls_keeps_callsOk hs
  unfold countPresence
  dsimp only
  split
  · exact expire_keeps_callsOk hended
  · split
    · exact callsOk_setPresence hended fun h => h
    · exact hended

/-! ## Messages -/

/-- A call is marked or cleared (R171). -/
theorem ackCall_keeps_callsOk {e p k} : CallsOk (ackCall e p k s) := by
  unfold ackCall
  dsimp only
  split
  · rename_i hpending
    split
    · exact callsOk_setCall hs ⟨fun h => ((hs k).2 p).1 h, fun _ => hpending, fun _ => rfl⟩
    · exact clearCall_keeps_callsOk hs
  · exact hs

/-- Where a key's configuration is written, its calls outside the new mask are cleared in the same event (R165). -/
theorem writeKeyConfig_keeps_callsOk {p k v} : CallsOk (writeItem p (.key k) v s).state := by
  have hstored : SameExcept [.settings, .journal] s (storeItem p (.key k) v s) := storeItem_frame _ _ _ _
  have hkeys : (storeItem p (.key k) v s).keys = s.keys := hstored .keys (by decide)
  have hcalls : (storeItem p (.key k) v s).calls = s.calls := hstored .calls (by decide)
  have hconfig (j : KeyId) : ((storeItem p (.key k) v s).settings.keys[j]'j.2)
      = if j = k then keyConfigOf v else (s.settings.keys[j]'j.2) := vset_get _ _ _ _
  have hnew : keyConfig (storeItem p (.key k) v s) k = keyConfigOf v := (hconfig k).trans (if_pos rfl)
  have hframe := applyKeyConfig_frame k (s.settings.keys[k]'k.2) (storeItem p (.key k) v s)
  have hpresence : (writeItem p (.key k) v s).state.presence = s.presence :=
    (hframe .presence (by decide)).trans (hstored .presence (by decide))
  have hsettings : (writeItem p (.key k) v s).state.settings = (storeItem p (.key k) v s).settings :=
    hframe .settings (by decide)
  refine callsOk_iff.mpr ⟨fun j => ?_, fun j q => ?_⟩
  · rw [hsettings, hconfig]
    change KeyRule _ ((applyKeyConfig k (s.settings.keys[k]'k.2) (storeItem p (.key k) v s)).keys[j]'j.2)
    rw [applyKeyConfig_keys, vset_get, hnew, hkeys]
    split
    · exact configuredKey_rule
    · exact (hs j).1
  · rw [hsettings, hconfig, hpresence]
    change CallRule _ q _ (((applyKeyConfig k (s.settings.keys[k]'k.2) (storeItem p (.key k) v s)).calls.get q)[j]'j.2)
    rw [applyKeyConfig_calls_get, hnew, hcalls]
    by_cases hj : j = k
    · subst hj
      rw [if_pos rfl]
      split
      · exact callRule_clear
      · rename_i hstays
        simp only [true_and, not_or, not_and, Bool.not_eq_false] at hstays
        obtain ⟨henabled, hmask⟩ := hstays
        obtain ⟨hpending, hacked, hending⟩ := (hs j).2 q
        exact ⟨fun hc => ⟨henabled, hmask (hpending hc).2.1, (hpending hc).2.2⟩, hacked, hending⟩
    · rw [if_neg hj, if_neg fun h => hj h.1]
      exact (hs j).2 q

/-- Settings that leave the keys' configurations leave the rule. -/
theorem storeItem_keeps_callsOk {p i v} (h : (putItem i v s.settings).keys = s.settings.keys) :
    CallsOk (storeItem p i v s) := by
  refine callsOk_reads.kept (appendEntry_frame _ _ _ _ _) fun k => ?_
  have hkeys : (s.withSettings (putItem i v s.settings)).settings.keys = s.settings.keys := h
  rw [hkeys]
  exact hs k

theorem holdTimeout_keeps_callsOk {q old} : CallsOk (holdTimeout q old s) := by
  unfold holdTimeout
  dsimp only
  split
  · exact callsOk_setPresence hs fun h => h
  · exact hs

theorem writeItem_keeps_callsOk {p i v} : CallsOk (writeItem p i v s).state := by
  cases i
  case key => exact writeKeyConfig_keeps_callsOk hs
  case clockPriority =>
    exact callsOk_reads.kept (settle_frame _) (callsOk_reads.kept (reselect_frame _) (storeItem_keeps_callsOk hs rfl))
  case pathEnable => exact callsOk_reads.kept (applyPathEnable_frame _ _) (storeItem_keeps_callsOk hs rfl)
  case alarm => exact callsOk_reads.kept (driveLines_frame _) (storeItem_keeps_callsOk hs rfl)
  case timeout => exact holdTimeout_keeps_callsOk (storeItem_keeps_callsOk hs rfl)
  all_goals exact storeItem_keeps_callsOk hs rfl

theorem handlerOf_keeps_callsOk {before k p m}
    (htouch : Touches [.keys, .calls, .settings, .presence] (handlerBlocks k)) :
    CallsOk (handlerOf before k p m s).state := by
  cases k
  case ackCall => exact judged_state hs (ackCall_keeps_callsOk hs)
  case writeSetting =>
    unfold handlerOf answerWriteSetting
    dsimp only
    split
    · exact hs
    · exact judged_state hs (writeItem_keeps_callsOk hs)
  all_goals exact absurd htouch (by decide)

end

theorem callsOk_reset (straps sig q) :
    CallsOk (((State.reset.withUnitAddr straps).withSignal sig).withPending q) := by
  refine callsOk_iff.mpr ⟨fun k => ?_, fun k p => ?_⟩
  · have hkey : (State.reset.keys[k]'k.2) = { state := .disabled, down := false, stab := 0, toggle := false } :=
      Vector.getElem_replicate ..
    have hconfig : (State.reset.settings.keys[k]'k.2) = { enabled := false, latch := false, ports := .of fun _ => false } :=
      Vector.getElem_replicate ..
    simp only [State.withPending_fields, State.withSignal_fields, State.withUnitAddr_fields]
    rw [hkey, hconfig]
    exact ⟨fun _ => rfl, fun _ => rfl⟩
  · have hcall : ((State.reset.calls.get p)[k]'k.2) = clearEntry := by
      cases p <;> exact Vector.getElem_replicate ..
    simp only [State.withPending_fields, State.withSignal_fields, State.withUnitAddr_fields]
    rw [hcall]
    exact callRule_clear

/-- The calls are reached by the keys, by presence, by ACK_CALL and by the settings. -/
theorem callsOk_kept : KeptByOperations CallsOk :=
  keptByOperations_of_touched callsOk_reads
    (reset := callsOk_reset)
    (handler := fun _ _ _ _ _ htouch _ hs => handlerOf_keeps_callsOk hs htouch)
    (heard := fun _ _ _ hs => heard_keeps_callsOk hs)
    (countPresence := fun _ _ _ hs => countPresence_keeps_callsOk hs)
    (keyWork := fun _ _ _ hs => keyWork_keeps_callsOk hs)

/-- Settles O56: a call is raised for an enabled key at a PRESENT port of its mask, and what ends one of these clears it. -/
theorem stepKeepsTheCallTable : Obligations.StepKeepsTheCallTable := fun _ _ hs he => callsOk_kept.step he hs

end Sys2Proof.Safety
end

section
/-! SUPPORT. When each condition holds, read from its bit (R9, R31, R35, R63, R108, R122, R159), and what leaves the
conditions as they are. -/
namespace Sys2Proof.Safety

open Sys2Proof.Machine

/-! ## One condition's bit -/

/-- The number whose bit i is flag i of n flags. -/
def flagSum (n : Nat) (g : Fin n → Bool) : Nat := ((List.finRange n).map fun i => flagAt i.val (g i)).sum

theorem flagSum_succ (n : Nat) (g : Fin (n + 1) → Bool) :
    flagSum (n + 1) g = (g 0).toNat + 2 * flagSum n fun i => g i.succ := by
  have hshift (i : Fin n) : flagAt i.succ.val (g i.succ) = 2 * flagAt i.val (g i.succ) := by
    simp only [flagAt, Fin.val_succ, Nat.pow_succ]; ring
  simp only [flagSum, List.finRange_succ, List.map_cons, List.map_map, Function.comp_def, hshift, List.sum_cons,
    List.sum_map_mul_left]
  simp [flagAt]

theorem testBit_flagSum {n : Nat} (g : Fin n → Bool) (j : Nat) :
    (flagSum n g).testBit j = if h : j < n then g ⟨j, h⟩ else false := by
  induction n generalizing j with
  | zero => simp [flagSum]
  | succ n ih =>
    rw [flagSum_succ]
    cases j with
    | zero => cases h : g 0 <;> simp [Nat.testBit_zero, h]
    | succ j =>
      have hhalf : ((g 0).toNat + 2 * flagSum n fun i => g i.succ) / 2 = flagSum n fun i => g i.succ := by
        have := Bool.toNat_le (g 0); omega
      rw [Nat.testBit_succ, hhalf, ih]
      simp only [Nat.add_lt_add_iff_right, Fin.succ_mk]

/-- The kind of a number, in the order of chapter 12. -/
def kindNumbered (i : Fin 12) : FaultKind := faultKinds[i.val]'i.isLt

set_option Elab.async false in
theorem faultNo_kindNumbered : ∀ i : Fin 12, faultNo (kindNumbered i) = i := by decide

theorem kindNumbered_faultNo (k : FaultKind) : kindNumbered (faultNo k) = k := by cases k <;> rfl

theorem faultKinds_eq : faultKinds = (List.finRange 12).map kindNumbered := by decide

theorem conditionsOf_eq_flagSum (s : State) (p : Port) :
    conditionsOf s p = BitVec.ofNat 12 (flagSum 12 fun i => conditionHolds s p (kindNumbered i)) := by
  simp only [conditionsOf, faultKinds_eq, List.map_map, Function.comp_def, faultNo_kindNumbered, flagSum]

/-- A kind's bit among the conditions tells whether its condition holds. -/
theorem conditionsOf_bit (s : State) (p : Port) (k : FaultKind) :
    (conditionsOf s p).getLsbD (faultNo k).val = conditionHolds s p k := by
  rw [conditionsOf_eq_flagSum, BitVec.getLsbD_ofNat, testBit_flagSum, dif_pos (faultNo k).isLt,
    decide_eq_true (faultNo k).isLt, Bool.true_and, Fin.eta, kindNumbered_faultNo]

theorem faultBit_bit (j k : FaultKind) : (faultBit j).getLsbD (faultNo k).val = decide (k = j) := by
  cases j <;> cases k <;> rfl

/-! ## What the conditions say -/

/-- A test of some entry of a vector. -/
theorem vector_any_iff {α : Type} {n : Nat} {v : Vector α n} {f : α → Bool} :
    v.toList.any f = true ↔ ∃ i : Fin n, f (v[i]'i.2) = true := by
  simp only [List.any_eq_true, Vector.mem_toList_iff, Vector.mem_iff_getElem]
  constructor
  · rintro ⟨a, ⟨i, hi, rfl⟩, h⟩
    exact ⟨⟨i, hi⟩, h⟩
  · rintro ⟨i, h⟩
    exact ⟨_, ⟨i.val, i.isLt, rfl⟩, h⟩

theorem anyPath_iff {s : State} {f : PathRec → Bool} :
    anyPath s f = true ↔ ∃ q x, f ((s.paths.get q).get x) = true := by
  simp only [anyPath, List.any_eq_true]
  constructor
  · rintro ⟨q, -, x, -, h⟩
    exact ⟨q, x, h⟩
  · rintro ⟨q, x, h⟩
    exact ⟨q, mem_ports q, x, by cases x <;> simp [pathNames], h⟩

theorem pathLossHolds_iff {s : State} :
    pathLossHolds s = true
      ↔ ∃ q x, ((s.paths.get q).get x).state = .dark ∨ ((s.paths.get q).get x).state = .acquire := by
  simp [pathLossHolds, anyPath_iff]

theorem pathDegradedHolds_iff {s : State} :
    pathDegradedHolds s = true ↔ ∃ q x, ((s.paths.get q).get x).state = .degraded := by
  simp [pathDegradedHolds, anyPath_iff]

theorem clockFallbackHolds_iff {s : State} :
    clockFallbackHolds s = true
      ↔ ∃ q, s.settings.clockPriority.head? = some q ∧ s.clock.source ≠ some q := by
  unfold clockFallbackHolds
  cases s.settings.clockPriority with
  | nil => simp
  | cons q l => simp

theorem phantomShedHolds_iff {s : State} :
    phantomShedHolds s = true ↔ ∃ b : BankId, (s.phantom.banks[b]'b.2).state ≠ .normal := by
  simp only [phantomShedHolds, vector_any_iff, bne_iff_ne]

set_option Elab.async false in
theorem outputFailoverHolds_iff {s : State} :
    outputFailoverHolds s = true ↔ ∃ o : OutId, (s.outputs[o]'o.2).primary ≠ none ∧ (s.outputs[o]'o.2).sel ≠ .primary := by
  simp only [outputFailoverHolds, vector_any_iff, Bool.and_eq_true, bne_iff_ne, Option.isSome_iff_ne_none]

theorem somePathEnabled_iff {s : State} {q : Port} :
    somePathEnabled s q = true ↔ ∃ x, (s.settings.pathEnable.get q).get x = true := by
  rw [somePathEnabled, Bool.or_eq_true]
  constructor
  · rintro (h | h)
    · exact ⟨.a, h⟩
    · exact ⟨.b, h⟩
  · rintro ⟨x, h⟩
    cases x
    · exact .inl h
    · exact .inr h

theorem deskAbsentHolds_iff {s : State} :
    deskAbsentHolds s = true
      ↔ ∃ q x, (s.settings.pathEnable.get q).get x = true ∧ (s.presence.get q).present = false := by
  simp only [deskAbsentHolds, List.any_eq_true, Bool.and_eq_true, Bool.not_eq_true', somePathEnabled_iff]
  constructor
  · rintro ⟨q, -, ⟨x, h⟩, hpresent⟩
    exact ⟨q, x, h, hpresent⟩
  · rintro ⟨q, x, h, hpresent⟩
    exact ⟨q, mem_ports q, ⟨x, h⟩, hpresent⟩

theorem trackLimitHolds_iff {s : State} {p : Port} :
    trackLimitHolds s p = true ↔ ∃ c : Chan, ((s.tracks.get p)[c]'c.2).limited = true := by
  simp only [trackLimitHolds, vector_any_iff]

/-! ## What leaves the conditions as they are -/

/-- The conditions of two states that agree in what the conditions are judged from; what is the same by definition need
not be given. -/
theorem conditionsOf_same {s t : State}
    (hpath : ∀ p x, ((t.paths.get p).get x).state = ((s.paths.get p).get x).state := by exact fun _ _ => rfl)
    (hsource : t.clock.source = s.clock.source := by rfl)
    (hpriority : t.settings.clockPriority = s.settings.clockPriority := by rfl)
    (henable : t.settings.pathEnable = s.settings.pathEnable := by rfl)
    (hbank : ∀ b : BankId, (t.phantom.banks[b]'b.2).state = (s.phantom.banks[b]'b.2).state := by exact fun _ => rfl)
    (hout : ∀ o : OutId, (t.outputs[o]'o.2).primary = (s.outputs[o]'o.2).primary ∧ (t.outputs[o]'o.2).sel
        = (s.outputs[o]'o.2).sel := by
      exact fun _ => ⟨rfl, rfl⟩)
    (hpresent : ∀ p, (t.presence.get p).present = (s.presence.get p).present := by exact fun _ => rfl)
    (hlimited : ∀ p (c : Chan), ((t.tracks.get p)[c]'c.2).limited
        = ((s.tracks.get p)[c]'c.2).limited := by exact fun _ _ => rfl)
    (p : Port) : conditionsOf t p = conditionsOf s p :=
  conditionsOf_congr_fields hpath hsource hpriority henable hbank hout hpresent hlimited p

theorem setPath_state {p x r} {s : State} (h : r.state = (pathRec s p x).state) (q : Port) (y : PathName) :
    (((setPath p x r s).paths.get q).get y).state = ((s.paths.get q).get y).state := by
  rw [setPath_paths, pathsWith_get]
  split
  · rename_i hqy
    rw [hqy.1, hqy.2]
    exact h
  · rfl

theorem setBank_get (b : BankId) (k : Bank) (s : State) (d : BankId) :
    ((setBank b k s).phantom.banks[d]'d.2) = if d = b then k else (s.phantom.banks[d]'d.2) := vset_get _ _ _ _

theorem stepped_same (s : State) (i : OutId) (k : Nat) :
    (stepped s i k).primary = (s.outputs[i]'i.2).primary ∧ (stepped s i k).sel = (s.outputs[i]'i.2).sel := by
  induction k with
  | zero => exact ⟨rfl, rfl⟩
  | succ k ih => exact ih

end Sys2Proof.Safety
end

section
/-! SUPPORT and PROOFS. The fault block after each operation (R180, R181, R185), and the statement that every step keeps
it. -/
namespace Sys2Proof.Safety

open Sys2Proof.Machine

/-! ## The copies alone -/

/-- Every copy holds the kinds whose condition is active for its port (R181). -/
def CopiesOk (s : State) : Prop := ∀ p, s.faults.active.get p &&& ~~~ s.faults.sticky.get p = 0

theorem copiesOk_reads : Reads [.faults] CopiesOk := by
  intro s t h hs p
  have hf : t.faults = s.faults := h .faults (by decide)
  rw [hf]
  exact hs p

theorem FaultsOk.copies {s : State} (h : FaultsOk s) : CopiesOk s := fun p => (h.1 p).2

/-- A copy that holds more flags still holds those of the active conditions. -/
theorem held_or {a c : BitVec 12} (k : BitVec 12) (h : a &&& ~~~ c = 0) : a &&& ~~~ (c ||| k) = 0 := by
  rw [BitVec.not_or, ← BitVec.and_assoc, h]
  exact BitVec.zero_and

theorem raiseFor_keeps_copiesOk {scope k} {s : State} (h : CopiesOk s) : CopiesOk (raiseFor scope k s) := by
  intro p
  rw [raiseFor_active, raiseFor_sticky]
  split
  · exact held_or _ (h p)
  · exact h p

set_option Elab.async false in
theorem settle_keeps_copiesOk {s : State} (h : CopiesOk s) : CopiesOk (settle s) := fun p => settle_keeps_copies p (h p)

/-! ## The rule of the fault block -/

/-- A report leaves every condition standing as the state makes it (R180, R185). -/
theorem faultsOk_settle {s : State} (h : CopiesOk s) : FaultsOk (settle s) :=
  ⟨fun p => ⟨by rw [settle_active, conditionsOf_settle], settle_keeps_copies p (h p)⟩, settle_driven s⟩

theorem faultsOk_reads : Reads [.faults, .paths, .clock, .settings, .phantom, .outputs, .presence, .tracks] FaultsOk := by
  intro s t h hs
  have hf : t.faults = s.faults := h .faults (by decide)
  have hconditions (p : Port) : conditionsOf t p = conditionsOf s p :=
    conditionsOf_congr (fun b hb => h b (by fin_cases hb <;> decide)) p
  refine ⟨fun p => ?_, fun l => ?_⟩
  · rw [hf, hconditions]
    exact hs.1 p
  · rw [lineDriven_congr (congrArg _ hf) (congrArg _ hf) (h .settings (by decide)), hf]
    exact hs.2 l

/-- The fault block is in order where the flags and the conditions stand as they were, under the same map. -/
theorem faultsOk_of_same {s t : State} (hs : FaultsOk s) (hfaults : t.faults = s.faults)
    (hmap : t.settings.alarmMap = s.settings.alarmMap) (hconditions : ∀ p, conditionsOf t p = conditionsOf s p) :
    FaultsOk t := by
  refine ⟨fun p => ?_, fun l => ?_⟩
  · rw [hfaults, hconditions]
    exact hs.1 p
  · have hdriven : lineDriven t l = lineDriven s l := by simp only [lineDriven, lineOf, hfaults, hmap]
    rw [hdriven, hfaults]
    exact hs.2 l

section
variable {s : State} (hs : FaultsOk s)
include hs

/-- An event leaves every condition as it was (R180). -/
theorem raiseFor_keeps_faultsOk {scope k} : FaultsOk (raiseFor scope k s) :=
  ⟨fun p => ⟨by rw [raiseFor_active, conditionsOf_frame (raiseFor_frame _ _ _)]; exact (hs.1 p).1,
    raiseFor_keeps_copiesOk hs.copies p⟩, raiseFor_driven _ _ _⟩

theorem setAssembly_keeps_faultsOk {p a} : FaultsOk (setAssembly p a s) := faultsOk_reads.kept (setAssembly_frame p a s) hs

theorem dropPartial_keeps_faultsOk {p} : FaultsOk (dropPartial p s) := by
  unfold dropPartial
  split
  · exact hs
  · dsimp only
    split
    · exact raiseFor_keeps_faultsOk (setAssembly_keeps_faultsOk hs)
    · exact setAssembly_keeps_faultsOk hs

/-! ## The receivers and the clock -/

theorem setPath_state_keeps_faultsOk {p x r} (h : r.state = (pathRec s p x).state) : FaultsOk (setPath p x r s) :=
  faultsOk_of_same hs rfl rfl (conditionsOf_same (hpath := setPath_state h))

/-- The monitors are no matter of the conditions: only the source is. -/
theorem withClock_keeps_faultsOk {k : Clock} (h : k.source = s.clock.source) : FaultsOk (s.withClock k) :=
  faultsOk_of_same hs rfl rfl (conditionsOf_same (hsource := h))

theorem openBoundary_keeps_faultsOk : FaultsOk (openBoundary s) := by
  rw [openBoundary_eq]
  exact withClock_keeps_faultsOk hs (clockAtWork_source s)

theorem matchSync_keeps_faultsOk {p x bits} : FaultsOk (matchSync p x bits s) := by
  unfold matchSync
  dsimp only
  split
  · exact setPath_state_keeps_faultsOk hs (by rfl)
  · exact hs

theorem examineNext_keeps_faultsOk {p x next} : FaultsOk (examineNext p x next s) := by
  unfold examineNext
  dsimp only
  split
  · exact setPath_state_keeps_faultsOk hs (by rfl)
  · exact hs

set_option Elab.async false in
theorem moveReference_keeps_faultsOk {p x} : FaultsOk (moveReference p x s) :=
  withClock_keeps_faultsOk (withClock_keeps_faultsOk hs rfl) rfl

theorem huntingAgain_keeps_faultsOk {p x} (v : PerPort (PerPath Bool)) :
    FaultsOk (setPath p x { pathRec (s.withSignal v) p x with rx := .hunting } (s.withSignal v)) :=
  setPath_state_keeps_faultsOk (faultsOk_reads.kept (withSignal_frame v s) hs) (by rfl)

theorem loseSignal_keeps_faultsOk {p x} : FaultsOk (loseSignal p x s) := by
  unfold loseSignal
  dsimp only
  split
  · have hrx := huntingAgain_keeps_faultsOk hs (p := p) (x := x) (s.signal.set p ((s.signal.get p).set x false))
    split
    · split
      · exact moveReference_keeps_faultsOk hrx
      · exact withClock_keeps_faultsOk hrx (by rfl)
    · exact hrx
  · exact hs

theorem returnSignal_keeps_faultsOk {p x} : FaultsOk (returnSignal p x s) := by
  unfold returnSignal
  dsimp only
  split
  · exact hs
  · have hrx := huntingAgain_keeps_faultsOk hs (p := p) (x := x) (s.signal.set p ((s.signal.get p).set x true))
    split
    · exact withClock_keeps_faultsOk (withClock_keeps_faultsOk hrx (by rfl)) (by rfl)
    · exact hrx

/-! ## Playouts -/

theorem missFrame_keeps_faultsOk {p} : FaultsOk (missFrame p s) := by
  have hmerge {u : State} {m : Merge} (hu : FaultsOk u) : FaultsOk (setMerge p m u) :=
    faultsOk_reads.kept (setMerge_frame _ _ _) hu
  have hhandoff (h : Handoff) : FaultsOk (setHandoff p h s) := faultsOk_reads.kept (setHandoff_frame p h s) hs
  unfold missFrame
  dsimp only
  refine dropPartial_keeps_faultsOk ?_
  split
  · exact hmerge (hhandoff _)
  · split
    · exact raiseFor_keeps_faultsOk (hmerge (hmerge (hhandoff _)))
    · exact hmerge (hhandoff _)

/-! ## Presence -/

theorem setPresence_keeps_faultsOk {p r} (h : r.present = (s.presence.get p).present) : FaultsOk (setPresence p r s) := by
  refine faultsOk_of_same hs rfl rfl (conditionsOf_same (hpresent := fun q => ?_))
  rw [setPresence_present_get]
  split
  · rename_i hq
    rw [h, hq]
  · rfl

theorem countPresence_keeps_faultsOk {p} : FaultsOk (countPresence p s) := by
  have hended : FaultsOk (endCalls p s) := faultsOk_reads.kept (withCalls_frame _ s) hs
  unfold countPresence
  dsimp only
  split
  · unfold expire
    dsimp only
    refine faultsOk_settle (copiesOk_reads.kept (clearCallsAt_frame _ _) (copiesOk_reads.kept (withTalkMask_frame _ _) ?_))
    split
    · exact copiesOk_reads.kept (releaseAll_frame _ _) (copiesOk_reads.kept (setPresence_frame _ _ _) hended.copies)
    · exact copiesOk_reads.kept (setPresence_frame _ _ _) hended.copies
  · split
    · exact setPresence_keeps_faultsOk hended rfl
    · exact hended

/-! ## Captured frames and banks -/

theorem applyStep_keeps_faultsOk {c st} : FaultsOk (applyStep c st s) := by
  unfold applyStep
  dsimp only
  split
  · exact faultsOk_reads.kept (setChannel_frame _ _ _) hs
  · exact faultsOk_settle (copiesOk_reads.kept (appendEntry_frame _ _ _ _ _)
      (copiesOk_reads.kept (anchorRule_frame _ _) (copiesOk_reads.kept (setChannel_frame _ _ _) hs.copies)))

theorem captureFrame_keeps_faultsOk {c} : FaultsOk (captureFrame c s) := by
  have hmeters (f : SampleFrame) :
      FaultsOk (ports.foldl (fun s p => setMeter p c (meterFrame f ((s.meters.get p)[c]'c.2)) s) s) :=
    foldl_keeps (I := FaultsOk) (fun _ _ h => faultsOk_reads.kept (setMeter_frame _ _ _ _) h) _ _ hs
  unfold captureFrame
  dsimp only
  refine faultsOk_reads.kept (setChannel_frame _ _ _) ?_
  unfold advanceStep
  dsimp only
  split
  · exact hmeters _
  · split
    · exact applyStep_keeps_faultsOk (hmeters _)
    · exact faultsOk_reads.kept (setChannel_frame _ _ _) (hmeters _)

/-- A bank's trips, reading and timer are no matter of the conditions. -/
theorem setBank_keeps_faultsOk {b k} (h : k.state = (s.phantom.banks[b]'b.2).state) : FaultsOk (setBank b k s) := by
  refine faultsOk_of_same hs rfl rfl (conditionsOf_same (hbank := fun d => ?_))
  rw [setBank_get]
  split
  · rename_i hd
    rw [h, hd]
  · rfl

theorem shedBank_keeps_faultsOk {b k} : FaultsOk (shedBank b k s) :=
  faultsOk_settle (foldl_keeps (I := CopiesOk) (fun _ _ h => copiesOk_reads.kept (shedChan_frame _ _) h) _ _
    (copiesOk_reads.kept (moveBank_frame _ _ _ _) hs.copies))

theorem retryBank_keeps_faultsOk {a b k} : FaultsOk (retryBank a b k s) :=
  faultsOk_settle (foldl_keeps (I := CopiesOk) (fun _ _ h => copiesOk_reads.kept (retryChan_frame _ _) h) _ _
    (copiesOk_reads.kept (moveBank_frame _ _ _ _) hs.copies))

set_option Elab.async false in
theorem takeReading_keeps_faultsOk {b n} : FaultsOk (takeReading b n s) := by
  have hshed {k : Bank} : FaultsOk (holdTimer b (shedBank b k s)) :=
    faultsOk_reads.kept (holdTimer_frame _ _) (shedBank_keeps_faultsOk hs)
  have hset : FaultsOk (setBank b { (s.phantom.banks[b]'b.2) with last := n } s) := setBank_keeps_faultsOk hs rfl
  unfold takeReading
  dsimp only
  split
  · split
    · exact hshed
    · split <;> exact hshed
    · exact hset
    · exact hset
  · exact hset

theorem advanceBank_keeps_faultsOk {b} : FaultsOk (advanceBank b s) := by
  unfold advanceBank endHoldoff endWatch
  dsimp only
  split
  · split
    · split
      · exact retryBank_keeps_faultsOk hs
      · exact setBank_keeps_faultsOk hs rfl
    · exact setBank_keeps_faultsOk hs rfl
  · split
    · exact faultsOk_settle (copiesOk_reads.kept (moveBank_frame _ _ _ _) hs.copies)
    · exact setBank_keeps_faultsOk hs rfl
  · exact hs
  · exact hs

theorem resetBank_keeps_faultsOk {p b} : FaultsOk (resetBank p b s) := by
  unfold resetBank
  dsimp only
  split
  case h_3 | h_4 => exact hs
  all_goals exact retryBank_keeps_faultsOk hs

/-! ## Outputs -/

/-- An output's flag and timer are no matter of the conditions. -/
theorem setOutputRec_keeps_faultsOk {o r} (hprimary : r.primary = (s.outputs[o]'o.2).primary)
    (hsel : r.sel = (s.outputs[o]'o.2).sel) :
    FaultsOk (setOutputRec o r s) := by
  refine faultsOk_of_same hs rfl rfl (conditionsOf_same (hout := fun i => ?_))
  rw [setOutputRec_get]
  split
  · rename_i hi
    rw [hprimary, hsel, hi]
    exact ⟨rfl, rfl⟩
  · exact ⟨rfl, rfl⟩

theorem countHoldoff_keeps_faultsOk {o} : FaultsOk (countHoldoff o s) := by
  unfold countHoldoff
  dsimp only
  split
  · split
    · exact faultsOk_settle (copiesOk_reads.kept (setOutputRec_frame _ _ _) hs.copies)
    · exact setOutputRec_keeps_faultsOk hs rfl rfl
  · exact hs

/-- The samples and weights of the outputs, the period gains and the bank in turn are no matter of the conditions. -/
theorem endBoundary_keeps_faultsOk : FaultsOk (endBoundary s) := by
  have hframe := endBoundary_frame s
  refine faultsOk_of_same hs (hframe .faults (by decide)) (congrArg _ (hframe .settings (by decide)))
    (conditionsOf_same (fun _ _ => by rw [hframe .paths (by decide)]) (by rw [hframe .clock (by decide)])
      (by rw [hframe .settings (by decide)]) (by rw [hframe .settings (by decide)]) (fun b => ?_) (fun o => ?_)
      (fun _ => by rw [hframe .presence (by decide)]) (fun p c => ?_))
  · rw [endBoundary_phantom]
  · rw [endBoundary_outputs, playOutputs_get]
    exact stepped_same s o 8
  · have htracks : (endBoundary s).tracks = (fixPeriods (playOutputs s)).tracks := by
      unfold endBoundary
      dsimp only
      rw [withLatch_frame _ _ .tracks (by decide), withPhantom_frame _ _ .tracks (by decide)]
    rw [htracks]
    simp [fixPeriods, playOutputs]

theorem rstnLow_keeps_faultsOk {t : State} (he : execRstnLow s = .next t) : FaultsOk t := by
  cases he
  refine faultsOk_of_same hs rfl rfl (conditionsOf_same (hout := fun o => ?_))
  simp only [State.withLatch_fields, State.withOutputs_fields, State.withSent_fields, State.withRstn_fields,
    Fin.getElem_fin, Vector.getElem_ofFn]
  exact ⟨trivial, trivial⟩

/-! ## The lines -/

theorem driveLines_keeps_faultsOk {t : State} (hactive : t.faults.active = s.faults.active)
    (hsticky : t.faults.sticky = s.faults.sticky) (hconditions : ∀ p, conditionsOf t p = conditionsOf s p) :
    FaultsOk (driveLines t) := by
  refine ⟨fun p => ?_, fun l => ?_⟩
  · rw [driveLines_active, driveLines_sticky, conditionsOf_frame (driveLines_frame t), hactive, hsticky, hconditions]
    exact hs.1 p
  · rw [driveLines_driven]
    rfl

theorem countStretch_keeps_faultsOk {l} : FaultsOk (countStretch l s) := by
  unfold countStretch
  dsimp only
  split
  · exact hs
  · exact driveLines_keeps_faultsOk hs rfl rfl fun p => conditionsOf_frame (withFaults_frame _ _) p

/-- A flag cleared is not that of an active condition (R182). -/
theorem clearedCopy_holds (p : Port) (mask : BitVec 12) : s.faults.active.get p &&& ~~~ clearedCopy s p mask = 0 := by
  have hkinds : s.faults.active.get p &&& ~~~ conditionKinds = 0 := (hs.1 p).1 ▸ conditionsOf_kinds s p
  have hheld := (hs.1 p).2
  unfold clearedCopy
  ext i hi
  have hkind := congrArg (fun v : BitVec 12 => v[i]) hkinds
  have hheld := congrArg (fun v : BitVec 12 => v[i]) hheld
  simp only [BitVec.getElem_and, BitVec.getElem_not] at hkind hheld ⊢
  revert hkind hheld
  cases (s.faults.active.get p)[i] <;> simp
  intro hkind hheld
  simp [hkind, hheld]

theorem clearFaults_keeps_faultsOk {p mask} :
    FaultsOk (s.withFaults { s.faults with sticky := s.faults.sticky.set p (clearedCopy s p mask) }) := by
  refine ⟨fun q => ⟨?_, ?_⟩, fun l => ?_⟩
  · rw [conditionsOf_frame (withFaults_frame _ _)]
    exact (hs.1 q).1
  · change s.faults.active.get q &&& ~~~ (s.faults.sticky.set p (clearedCopy s p mask)).get q = 0
    rw [PerPort.get_set]
    split
    · rename_i hq
      rw [hq]
      exact clearedCopy_holds hs p mask
    · exact (hs.1 q).2
  · exact hs.2 l

end

/-! ## The copies where a report ends the operation -/

section
variable {s : State} (hs : CopiesOk s)
include hs

theorem placeCopy_keeps_copiesOk {p c} : CopiesOk (placeCopy p c s) := by
  have hset {m : Merge} : CopiesOk (setMerge p m s) := copiesOk_reads.kept (setMerge_frame _ _ _) hs
  unfold placeCopy
  dsimp only
  split
  · exact hset
  · split
    · exact hset
    · split
      · exact raiseFor_keeps_copiesOk hset
      · exact hset

set_option Elab.async false in
theorem takeArrival_keeps_copiesOk {p x c} : CopiesOk (takeArrival p x c s) := by
  have hset {r : PathRec} : CopiesOk (setPath p x r s) := copiesOk_reads.kept (setPath_frame _ _ _ _) hs
  unfold takeArrival
  dsimp only
  split
  · exact hs
  · exact hset
  · exact hset
  · exact placeCopy_keeps_copiesOk hset
  · exact placeCopy_keeps_copiesOk hset

theorem completeInterval_copiesOk {p n} : CopiesOk (completeInterval p n s) := by
  have hset {m : Monitor} : CopiesOk (setMonitor p m s) := copiesOk_reads.kept (setMonitor_frame _ _ _) hs
  by_cases hkept : (judgedMonitor p n s).state = (s.clock.monitors.get p).state
  · rw [completeInterval_of_kept hkept]
    exact settle_keeps_copiesOk hset
  · by_cases hreject : (judgedMonitor p n s).state = .bad ∧ (s.clock.monitors.get p).state = .good
    · obtain ⟨hbad, hgood⟩ := hreject
      rw [completeInterval_of_rejected hgood hbad]
      exact settle_keeps_copiesOk (copiesOk_reads.kept (reselect_frame _) (raiseFor_keeps_copiesOk hset))
    · rw [completeInterval_of_moved hkept (not_and_or.mp hreject)]
      exact settle_keeps_copiesOk (copiesOk_reads.kept (reselect_frame _) hset)

theorem goUp_keeps_copiesOk {p x n} : CopiesOk (goUp p x n s) := by
  have hset {r : PathRec} : CopiesOk (setPath p x r s) := copiesOk_reads.kept (setPath_frame _ _ _ _) hs
  unfold goUp
  dsimp only
  split
  · split
    · exact placeCopy_keeps_copiesOk hset
    · exact hset
  · exact copiesOk_reads.kept (goOnline_frame _ _ _ _) hset

theorem leaveCarrying_keeps_copiesOk {p x r} : CopiesOk (leaveCarrying p x r s) := by
  have hset : CopiesOk (setPath p x r s) := copiesOk_reads.kept (setPath_frame _ _ _ _) hs
  unfold leaveCarrying
  dsimp only
  split
  · split
    · exact copiesOk_reads.kept (moveReference_frame _ _ _) hset
    · exact hset
  · unfold goOffline
    dsimp only
    refine settle_keeps_copiesOk (copiesOk_reads.kept (reselect_frame _) (copiesOk_reads.kept (followOutputs_frame _ _) ?_))
    exact hset

theorem writePathFlag_keeps_copiesOk {a b p x} : CopiesOk (writePathFlag a b p x s) := by
  unfold writePathFlag disablePath
  dsimp only
  split
  · split
    · exact leaveCarrying_keeps_copiesOk hs
    · exact copiesOk_reads.kept (setPath_frame _ _ _ _) hs
  · exact copiesOk_reads.kept (enablePath_frame _ _ _) hs
  · exact hs

end

section
variable {s : State} (hs : FaultsOk s)
include hs

theorem arriveFrame_keeps_faultsOk {p x f} : FaultsOk (arriveFrame p x f s) := by
  unfold arriveFrame
  split
  · exact faultsOk_settle (takeArrival_keeps_copiesOk (copiesOk_reads.kept (endPeriod_frame _ _ _)
      (copiesOk_reads.kept (setPath_frame _ _ _ _) hs.copies)))
  · exact hs

/-- Whatever the verdict, the interval's event ends with a report. -/
theorem completeInterval_keeps_faultsOk {p n} : FaultsOk (completeInterval p n s) := by
  have hcopies : CopiesOk (completeInterval p n s) := completeInterval_copiesOk hs.copies
  have hreported : ∃ u, completeInterval p n s = settle u := ⟨_, rfl⟩
  obtain ⟨u, hu⟩ := hreported
  rw [hu] at hcopies ⊢
  exact ⟨fun p => ⟨by rw [settle_active, conditionsOf_settle], hcopies p⟩, settle_driven u⟩

theorem scorePath_keeps_faultsOk {p x} : FaultsOk (scorePath p x s) := by
  have hcarrying (h : carries (pathRec s p x) = true) : FaultsOk (settle (scoreCarrying p x s)) := by
    refine faultsOk_settle ?_
    obtain hdark | ⟨r, hstays, -⟩ := scoreCarrying_cases h
    · rw [hdark]
      exact leaveCarrying_keeps_copiesOk hs.copies
    · rw [hstays]
      exact copiesOk_reads.kept (setPath_frame _ _ _ _) hs.copies
  unfold scorePath
  split
  case h_1 | h_2 => exact hs
  case h_3 hacquire =>
    refine faultsOk_settle ?_
    obtain ⟨n, hup⟩ | ⟨r, hstays, -⟩ := scoreAcquire_cases hacquire
    · rw [hup]
      exact goUp_keeps_copiesOk hs.copies
    · rw [hstays]
      exact copiesOk_reads.kept (setPath_frame _ _ _ _) hs.copies
  case h_4 hup => exact hcarrying (by rw [carries, hup]; rfl)
  case h_5 hdegraded => exact hcarrying (by rw [carries, hdegraded]; rfl)

/-! ## Messages -/

/-- A setting that no condition is judged from, nor a line driven by. -/
theorem storeItem_keeps_faultsOk {p i v} (hpriority : (putItem i v s.settings).clockPriority = s.settings.clockPriority)
    (henable : (putItem i v s.settings).pathEnable = s.settings.pathEnable)
    (hmap : (putItem i v s.settings).alarmMap = s.settings.alarmMap) : FaultsOk (storeItem p i v s) :=
  faultsOk_reads.kept (appendEntry_frame _ _ _ _ _) (faultsOk_of_same (t := s.withSettings (putItem i v s.settings)) hs rfl
    hmap (conditionsOf_same (hpriority := hpriority) (henable := henable)))

theorem holdTimeout_keeps_faultsOk {q old} : FaultsOk (holdTimeout q old s) := by
  unfold holdTimeout
  dsimp only
  split
  · exact setPresence_keeps_faultsOk hs rfl
  · exact hs

theorem writeItem_keeps_faultsOk {p i v} : FaultsOk (writeItem p i v s).state := by
  have hstored : CopiesOk (storeItem p i v s) := copiesOk_reads.kept (storeItem_frame _ _ _ _) hs.copies
  cases i
  case clockPriority => exact faultsOk_settle (copiesOk_reads.kept (reselect_frame _) hstored)
  case pathEnable =>
    exact faultsOk_settle (foldl_keeps (I := CopiesOk) (fun _ _ h =>
      foldl_keeps (I := CopiesOk) (fun _ _ h => writePathFlag_keeps_copiesOk h) _ _ h) _ _ hstored)
  case key => exact faultsOk_reads.kept (applyKeyConfig_frame _ _ _) (storeItem_keeps_faultsOk hs rfl rfl rfl)
  case alarm => exact driveLines_keeps_faultsOk hs rfl rfl fun p => conditionsOf_same (p := p)
  case timeout => exact holdTimeout_keeps_faultsOk (storeItem_keeps_faultsOk hs rfl rfl rfl)
  all_goals exact storeItem_keeps_faultsOk hs rfl rfl rfl

theorem handlerOf_keeps_faultsOk {before k p m}
    (htouch : Touches [.faults, .paths, .clock, .settings, .phantom, .outputs, .presence, .tracks] (handlerBlocks k)) :
    FaultsOk (handlerOf before k p m s).state := by
  cases k
  case claimChannels =>
    exact judged_state hs (faultsOk_settle
      (foldl_keeps (I := CopiesOk) (fun _ _ h => copiesOk_reads.kept (claimChan_frame _ _ _) h) _ _ hs.copies))
  case setTrim => exact judged_state hs (faultsOk_settle (copiesOk_reads.kept (setTrack_frame _ _ _ _) hs.copies))
  case setTracking =>
    exact judged_state hs (faultsOk_settle
      (foldl_keeps (I := CopiesOk) (fun _ _ h => copiesOk_reads.kept (setTrackingOne_frame _ _ _ _) h) _ _ hs.copies))
  case phantomReset => exact judged_state hs (resetBank_keeps_faultsOk hs)
  case setOutput =>
    exact judged_state hs (faultsOk_reads.kept (appendEntry_frame _ _ _ _ _)
      (faultsOk_settle (copiesOk_reads.kept (setOutputRec_frame _ _ _) hs.copies)))
  case clearFaults => exact judged_state hs (clearFaults_keeps_faultsOk hs)
  case writeSetting =>
    unfold handlerOf answerWriteSetting
    dsimp only
    split
    · exact hs
    · exact judged_state hs (writeItem_keeps_faultsOk hs)
  all_goals exact absurd htouch (by decide)

end

set_option Elab.async false in
theorem faultsOk_reset (straps sig q) :
    FaultsOk (((State.reset.withUnitAddr straps).withSignal sig).withPending q) := by
  have hreset : FaultsOk State.reset := by
    refine ⟨fun p => ?_, fun l => ?_⟩
    · have hactive : State.reset.faults.active.get p = resetConditions := by cases p <;> rfl
      have hsticky : State.reset.faults.sticky.get p = resetConditions := by cases p <;> rfl
      have hconditions : conditionsOf State.reset p = resetConditions := by cases p <;> decide
      rw [hactive, hsticky, hconditions]
      decide
    · cases l <;> decide
  exact faultsOk_of_same hreset rfl rfl fun p => conditionsOf_same (p := p)

/-- The fault block is reached by the reports, the events and the lines, and judged from seven blocks more. -/
theorem faultsOk_kept : KeptByOperations FaultsOk :=
  keptByOperations_of_touched faultsOk_reads
    (reset := faultsOk_reset)
    (handler := fun _ _ _ _ _ htouch _ hs => handlerOf_keeps_faultsOk hs htouch)
    (rstnLow := fun _ _ _ he hs => rstnLow_keeps_faultsOk hs he)
    (openBoundary := fun _ _ hs => openBoundary_keeps_faultsOk hs)
    (arriveFrame := fun _ _ _ _ _ hs => arriveFrame_keeps_faultsOk hs)
    (loseSignal := fun _ _ _ _ hs => loseSignal_keeps_faultsOk hs)
    (returnSignal := fun _ _ _ _ hs => returnSignal_keeps_faultsOk hs)
    (matchSync := fun _ _ _ _ _ hs => matchSync_keeps_faultsOk hs)
    (examineNext := fun _ _ _ _ _ hs => examineNext_keeps_faultsOk hs)
    (completeInterval := fun _ _ _ _ _ hs => completeInterval_keeps_faultsOk hs)
    (scorePath := fun _ _ _ _ hs => scorePath_keeps_faultsOk hs)
    (deliverAudio := fun _ _ _ _ _ _ _ hs => faultsOk_settle (copiesOk_reads.kept (followOutputs_frame _ _)
      (copiesOk_reads.kept (setHandoff_frame _ _ _) (copiesOk_reads.kept (setMerge_frame _ _ _) hs.copies))))
    (missFrame := fun _ _ _ _ hs => missFrame_keeps_faultsOk hs)
    (dropPartial := fun _ _ _ hs => dropPartial_keeps_faultsOk hs)
    (raiseAt := fun _ _ _ _ hs => raiseFor_keeps_faultsOk hs)
    (heard := fun _ _ _ hs => faultsOk_settle (copiesOk_reads.kept (setPresence_frame _ _ _) hs.copies))
    (countPresence := fun _ _ _ hs => countPresence_keeps_faultsOk hs)
    (captureFrame := fun _ _ _ hs => captureFrame_keeps_faultsOk hs)
    (readingWork := fun _ _ hs => takeReading_keeps_faultsOk hs)
    (advanceBank := fun _ _ _ hs => advanceBank_keeps_faultsOk hs)
    (countHoldoff := fun _ _ _ hs => countHoldoff_keeps_faultsOk hs)
    (countStretch := fun _ _ _ hs => countStretch_keeps_faultsOk hs)
    (endBoundary := fun _ _ hs => endBoundary_keeps_faultsOk hs)

/-- A report of the conditions sets the flags of those that have become active (R180). -/
theorem settle_sticky_bit (s : State) (p : Port) (k : FaultKind) :
    ((settle s).faults.sticky.get p).getLsbD (faultNo k).val = true
      ↔ (s.faults.sticky.get p).getLsbD (faultNo k).val = true
        ∨ (conditionsOf s p).getLsbD (faultNo k).val = true ∧ (s.faults.active.get p).getLsbD (faultNo k).val = false := by
  rw [settle_sticky]
  simp

/-- An event's report sets its kind's flag in the copies of its scope (R180). -/
theorem raiseFor_sticky_bit (s : State) (p : Port) (k j : FaultKind) (scope : Port → Bool) :
    ((raiseFor scope j s).faults.sticky.get p).getLsbD (faultNo k).val = true
      ↔ (s.faults.sticky.get p).getLsbD (faultNo k).val = true ∨ k = j ∧ scope p = true := by
  rw [raiseFor_sticky]
  split
  · rename_i h
    rw [BitVec.getLsbD_or, faultBit_bit, Bool.or_eq_true, decide_eq_true_iff, h]
    simp
  · rename_i h
    rw [Bool.eq_false_iff.mpr h]
    simp

/-- Settles O55: each operation reports the conditions it may have changed, or leaves them as they are. -/
theorem stepKeepsTheFaultBlock : Obligations.StepKeepsTheFaultBlock := by
  refine ⟨fun _ _ hs he => faultsOk_kept.step he hs,
    fun s p k => ⟨settle_sticky_bit s p k, fun scope j => raiseFor_sticky_bit s p k j scope⟩, fun s p => ?_⟩
  simp only [conditionsOf_bit]
  refine ⟨pathLossHolds_iff, pathDegradedHolds_iff, clockFallbackHolds_iff, phantomShedHolds_iff, outputFailoverHolds_iff,
    deskAbsentHolds_iff, trackLimitHolds_iff, fun k hk => ?_⟩
  rcases hk with rfl | rfl | rfl | rfl | rfl <;> exact Bool.false_ne_true

end Sys2Proof.Safety
end

section
/-! PROOFS. Every command completes; reset; RSTN low; the receivers' place in the stream and their signal; KEEPALIVE. -/
namespace Sys2Proof.Safety

open Sys2Proof.Machine

/-! ## The queue and every command -/

/-- Settles O1. -/
theorem stepTakesTheFrontCommand : Obligations.StepTakesTheFrontCommand := by
  refine ⟨fun _ _ => rfl, fun s h => ?_⟩
  rw [step, h]

/-- Settles O60: the reset state meets each rule as any reset does. -/
theorem resetMeetsEveryKeptRule : Obligations.ResetMeetsEveryKeptRule := by
  have hreset {I : State → Prop} (h : KeptByOperations I) : I State.reset :=
    h.reset Config.resetStraps State.reset.signal []
  obtain ⟨hphantom, hbanks⟩ := hreset phantomAndBanksOk_kept
  obtain ⟨houtputs, hweights⟩ := hreset outputRules_kept
  exact ⟨hreset journalOk_kept, hreset lanesOk_kept, hreset tracksOk_kept, hreset headAmpsOk_kept, hphantom, hbanks,
    hreset faultsOk_kept, hreset callsOk_kept, hreset clockOk_kept, hreset pathsOk_kept, hreset windowsOk_kept, houtputs,
    hweights⟩

/-- A message row is its message complete at a port that is ONLINE (R45). -/
theorem exec_message {c : Instr} {p : Port} {kind : BitVec 6} {m : Msg} (h : messageOf c = some (p, kind, m)) (s : State) :
    exec c s = whileRunning s (fromDesk p (completeMessage p kind m)) := by
  cases c <;> cases h <;> rfl

/-- The rows that are taken while RSTN is low too: RESET, RSTN_LOW and the record of the signal pins. -/
def takenWhileLow : Instr → Bool
  | .reset _ | .rstnLow | .lossOfSignal _ _ | .signalReturn _ _ => true
  | _ => false

/-- An operation leaves the waiting commands. -/
def LeavesQueue (f : State → State) : Prop := ∀ s, (f s).pending = s.pending

theorem leavesQueue_of_frame {l : List Block} {f : State → State} (h : ∀ s, SameExcept l s (f s))
    (hl : .pending ∉ l := by decide) : LeavesQueue f := fun s => h s .pending hl

theorem leavesQueue_oneUnit {w : Work} {happens : State → Bool} {latch : State → State}
    (hlatch : ∀ s, SameExcept [.latch] s (latch s)) : LeavesQueue (oneUnit w happens latch) :=
  leavesQueue_of_frame fun s => oneUnit_frame w happens latch s hlatch (workEffect_frame w)

theorem leavesQueue_message {p kind m} : LeavesQueue (fromDesk p (completeMessage p kind m)) :=
  leavesQueue_of_frame fun s => SameExcept.onlyIf (completeMessage_frame p kind m) _ s

set_option Elab.async false in
/-- Every other row is an operation taken while RSTN is high. -/
theorem exec_running {c : Instr} (h : takenWhileLow c = false) (s : State) :
    ∃ f, exec c s = whileRunning s f ∧ LeavesQueue f := by
  by_cases hmessage : messageOf c = none
  · have hunit {w : Work} {happens : State → Bool} {latch : State → State} (hlatch : ∀ s, SameExcept [.latch] s (latch s))
        (he : exec c s = whileRunning s (oneUnit w happens latch)) : ∃ f, exec c s = whileRunning s f ∧ LeavesQueue f :=
      ⟨_, he, leavesQueue_oneUnit hlatch⟩
    have hplain (t : State) : SameExcept [.latch] t (id t) := .refl _ _
    cases c
    case frameArrival p x f => exact ⟨_, rfl, leavesQueue_of_frame (arriveFrame_frame p x f)⟩
    case stageFrameBoundary i => exact ⟨_, rfl, leavesQueue_of_frame (boundary_frame i)⟩
    case syncWordMatch p x bits => exact ⟨_, rfl, leavesQueue_of_frame (matchSync_frame p x bits)⟩
    case returnToHunting p x next => exact ⟨_, rfl, leavesQueue_of_frame (examineNext_frame p x next)⟩
    case intervalComplete p n =>
      exact ⟨_, rfl, leavesQueue_of_frame fun s => SameExcept.onlyIf (completeInterval_frame p n) _ s⟩
    case forcedStep c f => exact hunit (latchCapture_frame c f) rfl
    case phantomReading b code => exact hunit (latchRail_frame code) rfl
    case debouncedPress k => exact hunit (latchKey_frame k true) rfl
    case debouncedRelease k => exact hunit (latchKey_frame k false) rfl
    case reset straps => exact absurd h.symm Bool.false_ne_true
    case rstnLow => exact absurd h.symm Bool.false_ne_true
    case lossOfSignal p x => exact absurd h.symm Bool.false_ne_true
    case signalReturn p x => exact absurd h.symm Bool.false_ne_true
    all_goals first | exact absurd hmessage (Option.some_ne_none _) | exact hunit hplain rfl
  · obtain ⟨⟨p, kind, m⟩, hm⟩ := Option.ne_none_iff_exists'.mp hmessage
    exact ⟨_, exec_message hm s, leavesQueue_message⟩

set_option Elab.async false in
theorem whileRunning_of_low {s : State} (f : State → State) (h : s.rstn = false) : whileRunning s f = .next s := by
  rw [whileRunning, if_neg (by simp [h])]

/-- Settles O2: a command is an operation on blocks other than the queue. -/
theorem everyCommandCompletesAndLeavesTheQueue : Obligations.EveryCommandCompletesAndLeavesTheQueue := by
  intro c s
  cases hlow : takenWhileLow c
  · obtain ⟨f, he, hf⟩ := exec_running hlow s
    rw [he]
    cases hrstn : s.rstn
    · exact ⟨s, whileRunning_of_low f hrstn, rfl⟩
    · exact ⟨f s, whileRunning_of_high f hrstn, hf s⟩
  · cases c
    case reset straps => exact ⟨_, rfl, rfl⟩
    case rstnLow => exact ⟨_, rfl, rfl⟩
    case lossOfSignal p x =>
      refine ⟨_, rfl, ?_⟩
      split
      · exact loseSignal_frame p x s .pending (by decide)
      · rfl
    case signalReturn p x =>
      refine ⟨_, rfl, ?_⟩
      split
      · exact returnSignal_frame p x s .pending (by decide)
      · rfl
    all_goals exact absurd hlow Bool.false_ne_true

/-! ## RSTN low and ports that are OFFLINE -/

set_option Elab.async false in
/-- A row with a refusal is a message row of the same port. -/
theorem messageOf_of_refusalOf {s : State} {c : Instr} {p kind tag code} (h : refusalOf s c = some (p, kind, tag, code)) :
    ∃ m, messageOf c = some (p, kind, m) := by
  cases c <;> cases h <;> exact ⟨_, rfl⟩

/-- A message of a port that is OFFLINE has no effect (log entry 7). -/
theorem exec_message_offline {c : Instr} {p kind m} {s : State} (h : messageOf c = some (p, kind, m))
    (hoff : online s p = false) : exec c s = .next s := by
  have hnothing : fromDesk p (completeMessage p kind m) s = s := if_neg (by simp [hoff])
  rw [exec_message h, whileRunning, hnothing, ite_self]

set_option Elab.async false in
/-- Settles O3. -/
theorem rstnLowStopsThePartAndOfflinePortsSendNothing :
    Obligations.RstnLowStopsThePartAndOfflinePortsSendNothing := by
  refine ⟨⟨fun c s hrstn hreset hlow hloss hreturn => ?_, fun c s p kind tag code h hoff => ?_, fun p m s hoff => ?_⟩,
    fun s => ⟨_, rfl, rfl, ?_, fun i => ?_, rfl, ?_, rfl, ?_⟩⟩
  · have htaken : takenWhileLow c = false := by
      cases c
      case reset straps => exact absurd rfl (hreset straps)
      case rstnLow => exact absurd rfl hlow
      case lossOfSignal p x => exact absurd rfl (hloss p x)
      case signalReturn p x => exact absurd rfl (hreturn p x)
      all_goals rfl
    obtain ⟨f, he, -⟩ := exec_running htaken s
    rw [he, whileRunning_of_low f hrstn]
  · obtain ⟨m, hm⟩ := messageOf_of_refusalOf h
    exact exec_message_offline hm hoff
  · exact exec_message_offline rfl hoff
  · intro p
    cases p <;> exact ⟨rfl, rfl, rfl⟩
  · simp only [State.withLatch_fields, State.withOutputs_fields, State.withSent_fields, State.withRstn_fields,
      Fin.getElem_fin, Vector.getElem_ofFn]
    rfl
  · intro p
    cases p <;> rfl
  · intro b hb
    cases b <;> first | exact absurd (by decide) hb | rfl

end Sys2Proof.Safety
end

section
/-! PROOFS. The reset state; the receivers' place in the stream (R1); loss and return of signal (R1, R25 to R28);
KEEPALIVE (R62). -/
namespace Sys2Proof.Safety

open Sys2Proof.Machine

/-- Settles O50. -/
theorem resetLeavesEveryBlockInItsResetState : Obligations.ResetLeavesEveryBlockInItsResetState := by
  refine ⟨fun straps s => ⟨_, rfl, rfl, rfl, rfl, rfl, ?_, ?_, rfl, ?_, rfl, ?_, ?_, ?_, ?_, ?_, rfl, rfl⟩,
    fun straps s => ⟨_, rfl, ?_, ?_, ?_, ?_⟩, fun straps s => ⟨_, rfl, rfl, ?_, ?_, ?_, ?_, ?_, ?_⟩⟩
  · intro p x
    cases p <;> cases x <;> rfl
  · intro p
    cases p <;> rfl
  · intro p
    cases p <;> rfl
  · intro p
    cases p <;> rfl
  · intro p
    cases p <;> rfl
  · exact fun c => Vector.getElem_replicate ..
  · exact fun o => Vector.getElem_replicate ..
  · exact fun b => Vector.getElem_replicate ..
  · exact fun c => Vector.getElem_replicate ..
  · intro p c
    cases p <;> exact Vector.getElem_replicate ..
  · intro p c
    cases p <;> exact Vector.getElem_replicate ..
  · intro i
    have ho : (State.reset.outputs[i]'i.2) = Output.atReset := Vector.getElem_replicate ..
    simp only [State.withPending_fields, State.withSignal_fields, State.withUnitAddr_fields, ho]
    exact ⟨rfl, rfl, rfl, rfl, rfl, rfl, rfl, rfl, rfl, rfl⟩
  · exact fun k => Vector.getElem_replicate ..
  · intro p k
    cases p <;> exact Vector.getElem_replicate ..
  · intro p
    cases p <;> rfl
  · intro p k
    have hsticky : State.reset.faults.sticky.get p = resetConditions := by cases p <;> rfl
    simp only [State.withPending_fields, State.withSignal_fields, State.withUnitAddr_fields, hsticky]
    cases k <;> decide
  · intro p
    cases p <;> rfl
  · intro l
    cases l <;> exact ⟨rfl, rfl⟩

/-! ## The receivers' place in the stream (R1) -/

theorem receiving_iff {s : State} {p : Port} {x : PathName} :
    receiving s p x = true ↔ ((s.paths.get p).get x).state ≠ .disabled ∧ (s.signal.get p).get x = true := by
  simp [receiving, hasSignal, pathRec]

theorem matchSync_cond_iff {p x w} {s : State} :
    (receiving s p x && (pathRec s p x).rx == .hunting && w == syncWord) = true
      ↔ receiving s p x = true ∧ (pathRec s p x).rx = .hunting ∧ w = syncWord := by
  simp [and_assoc]

theorem matchSync_of_listening {p x} {s : State} (h : receiving s p x = true) (hrx : (pathRec s p x).rx = .hunting) :
    matchSync p x syncWord s = setPath p x { pathRec s p x with rx := .inFrame } s :=
  if_pos (matchSync_cond_iff.mpr ⟨h, hrx, rfl⟩)

theorem matchSync_of_not {p x w} {s : State}
    (h : ¬ (receiving s p x = true ∧ (pathRec s p x).rx = .hunting ∧ w = syncWord)) : matchSync p x w s = s :=
  if_neg fun hc => h (matchSync_cond_iff.mp hc)

theorem examineNext_of_listening {p x w} {s : State} (h : receiving s p x = true)
    (hrx : (pathRec s p x).rx = .nextWord) :
    examineNext p x w s = setPath p x { pathRec s p x with rx := if w = syncWord then .inFrame else .hunting } s := by
  have hcond : (receiving s p x && (pathRec s p x).rx == .nextWord) = true := by rw [h, hrx]; rfl
  unfold examineNext
  dsimp only
  rw [if_pos hcond]
  by_cases hw : w = syncWord
  · simp [hw]
  · simp [hw]

theorem examineNext_of_not {p x w} {s : State} (h : ¬ (receiving s p x = true ∧ (pathRec s p x).rx = .nextWord)) :
    examineNext p x w s = s :=
  if_neg fun hc => h (by simpa using hc)

set_option Elab.async false in
/-- Settles O4. -/
theorem receiverBeginsAFrameAtTheSyncWord : Obligations.ReceiverBeginsAFrameAtTheSyncWord := by
  intro p x w s hrstn r listening now
  have hmatch : exec (.syncWordMatch p x w) s = .next (matchSync p x w s) := whileRunning_of_high _ hrstn
  have hexamine : exec (.returnToHunting p x w) s = .next (examineNext p x w s) := whileRunning_of_high _ hrstn
  refine ⟨fun h => ?_, fun h => ?_, fun h => ?_, fun h => ?_⟩
  · obtain ⟨hlistening, hrx, rfl⟩ := h
    rw [hmatch]
    exact congrArg _ (matchSync_of_listening (receiving_iff.mpr hlistening) hrx)
  · rw [hmatch, matchSync_of_not]
    rintro ⟨hlistening, hrx, hw⟩
    rcases h with h | h | h
    · exact h (receiving_iff.mp hlistening)
    · exact h hrx
    · exact h hw
  · obtain ⟨hlistening, hrx⟩ := h
    rw [hexamine]
    exact congrArg _ (examineNext_of_listening (receiving_iff.mpr hlistening) hrx)
  · rw [hexamine, examineNext_of_not]
    rintro ⟨hlistening, hrx⟩
    rcases h with h | h
    · exact h (receiving_iff.mp hlistening)
    · exact h hrx

/-! ## Loss and return of signal (R1, R25 to R28) -/

/-- The state with a transceiver's signal recorded. -/
def signalled (p : Port) (x : PathName) (v : Bool) (s : State) : State :=
  s.withSignal (s.signal.set p ((s.signal.get p).set x v))

/-- A receiver that hunts again, its transceiver's signal recorded. -/
def huntingAgain (p : Port) (x : PathName) (v : Bool) (s : State) : State :=
  setPath p x { pathRec s p x with rx := .hunting } (signalled p x v s)

theorem huntingAgain_frame (p x v s) : SameExcept [.signal, .paths] s (huntingAgain p x v s) :=
  (withSignal_frame _ _).seq (setPath_frame _ _ _ _)

theorem signalled_get (p : Port) (x : PathName) (v : Bool) (s : State) :
    ((huntingAgain p x v s).signal.get p).get x = v
      ∧ ((huntingAgain p x v s).signal.get p).get (otherPath x) = (s.signal.get p).get (otherPath x)
      ∧ ∀ q, q ≠ p → (huntingAgain p x v s).signal.get q = s.signal.get q := by
  have hsignal : (huntingAgain p x v s).signal = s.signal.set p ((s.signal.get p).set x v) := rfl
  rw [hsignal]
  exact ⟨by simp, by simp [otherPath_ne], fun q hq => by simp [hq]⟩

theorem carries_huntingAgain_other (p x v s) :
    carries (pathRec (huntingAgain p x v s) p (otherPath x)) = carries (pathRec s p (otherPath x)) := by
  rw [huntingAgain, pathRec_setPath, if_neg fun h => otherPath_ne x h.2]
  rfl

theorem hasSignal_huntingAgain_other (p x v s) :
    hasSignal (huntingAgain p x v s) p (otherPath x) = hasSignal s p (otherPath x) :=
  (signalled_get p x v s).2.1

theorem loseSignal_eq {p x} {s : State} (h : hasSignal s p x = true) :
    loseSignal p x s =
      if (s.clock.monitors.get p).ref = some x then
        if carries (pathRec s p (otherPath x)) = true ∧ hasSignal s p (otherPath x) = true then
          moveReference p (otherPath x) (huntingAgain p x false s)
        else setMonitor p { s.clock.monitors.get p with interval := .none } (huntingAgain p x false s)
      else huntingAgain p x false s := by
  unfold loseSignal
  rw [if_pos h]
  change (if (s.clock.monitors.get p).ref == some x then
      if carries (pathRec (huntingAgain p x false s) p (otherPath x))
          && hasSignal (huntingAgain p x false s) p (otherPath x) then
        moveReference p (otherPath x) (huntingAgain p x false s)
      else setMonitor p { s.clock.monitors.get p with interval := .none } (huntingAgain p x false s)
    else huntingAgain p x false s) = _
  rw [carries_huntingAgain_other, hasSignal_huntingAgain_other]
  simp only [beq_iff_eq, Bool.and_eq_true]

theorem returnSignal_eq {p x} {s : State} (h : hasSignal s p x = false) :
    returnSignal p x s =
      if (s.clock.monitors.get p).ref = some x then
        switchIfSource p (setMonitor p { s.clock.monitors.get p with interval := .awaiting } (huntingAgain p x true s))
      else huntingAgain p x true s := by
  unfold returnSignal
  rw [if_neg (by simp [h])]
  change (if (s.clock.monitors.get p).ref == some x then
      switchIfSource p (setMonitor p { s.clock.monitors.get p with interval := .awaiting } (huntingAgain p x true s))
    else huntingAgain p x true s) = _
  simp only [beq_iff_eq]

/-- What a change of signal leaves beside the clock. -/
theorem huntingAgain_of_clock {p x v} {s t : State} (h : SameExcept [.clock] (huntingAgain p x v s) t) :
    (t.signal.get p).get x = v ∧ (t.signal.get p).get (otherPath x) = (s.signal.get p).get (otherPath x)
      ∧ (∀ q, q ≠ p → t.signal.get q = s.signal.get q)
      ∧ t.paths = pathsWith p x { (s.paths.get p).get x with rx := .hunting } s
      ∧ SameExcept [.signal, .paths, .clock] s t := by
  have hsignal : t.signal = (huntingAgain p x v s).signal := h .signal (by decide)
  obtain ⟨hself, hother, hothers⟩ := signalled_get p x v s
  refine ⟨hsignal ▸ hself, hsignal ▸ hother, hsignal ▸ hothers, h .paths (by decide), ?_⟩
  exact (huntingAgain_frame p x v s).seq h

/-- Settles O5. -/
theorem signalLossAndReturnMoveReceiverAndReference : Obligations.SignalLossAndReturnMoveReceiverAndReference := by
  refine ⟨?_, ?_, ?_⟩
  · intro p x s hrstn hsignal y m
    have hexec : exec (.lossOfSignal p x) s = .next (loseSignal p x s) := by
      change Host.Outcome.next (if s.rstn then _ else _) = _
      rw [if_pos hrstn]
    have heq := loseSignal_eq (p := p) (x := x) (s := s) hsignal
    have hframe : SameExcept [.clock] (huntingAgain p x false s) (loseSignal p x s) := by
      rw [heq]
      exact .ite (.ite (moveReference_frame _ _ _) (setMonitor_frame _ _ _)) (.refl _ _)
    obtain ⟨hself, hother, hothers, hpaths, hrest⟩ := huntingAgain_of_clock hframe
    refine ⟨_, hexec, hself, hother, hothers, hpaths, fun hnot => ?_, fun href hy => ?_, fun href hy => ?_, hrest⟩
    · rw [heq, if_neg hnot]
      rfl
    · rw [heq, if_pos href, if_pos ⟨carries_of_carrying hy.1, hy.2⟩]
      have hfresh : freshInterval (huntingAgain p x false s) p (otherPath x) = .awaiting :=
        if_pos ((hasSignal_huntingAgain_other p x false s).trans hy.2)
      unfold moveReference
      rw [hfresh]
      rfl
    · rw [heq, if_pos href, if_neg fun hc => hy ⟨carries_iff.mp hc.1, hc.2⟩]
      rfl
  · intro p x s hrstn hsignal m
    have hexec : exec (.signalReturn p x) s = .next (returnSignal p x s) := by
      change Host.Outcome.next (if s.rstn then _ else _) = _
      rw [if_pos hrstn]
    have heq := returnSignal_eq (p := p) (x := x) (s := s) hsignal
    have hframe : SameExcept [.clock] (huntingAgain p x true s) (returnSignal p x s) := by
      rw [heq]
      exact .ite ((setMonitor_frame _ _ _).trans (switchIfSource_frame _ _)) (.refl _ _)
    obtain ⟨hself, hother, hothers, hpaths, hrest⟩ := huntingAgain_of_clock hframe
    refine ⟨_, hexec, hself, hother, hothers, hpaths, fun hnot => ?_, fun href => ?_, hrest⟩
    · rw [heq, if_neg hnot]
      rfl
    · rw [heq, if_pos href]
      rfl
  · intro p n s h
    have hexec : exec (.intervalComplete p n) s = whileRunning s (onlyIf (measuring s p) (completeInterval p n)) := rfl
    cases hrstn : s.rstn
    · rw [hexec, whileRunning_of_low _ hrstn]
    · have hnot : measuring s p = false := by
        rcases h with h | h | h
        · exact absurd (hrstn.symm.trans h) (by simp)
        · simp [measuring, h]
        · simp [measuring, h]
      rw [hexec, whileRunning_of_high _ hrstn, hnot]
      rfl

/-- Settles O21. -/
theorem keepaliveRestartsThePresenceTimerOnly : Obligations.KeepaliveRestartsThePresenceTimerOnly := by
  intro p m s hrstn honline
  have hexec : exec (.keepalive p m) s = .next (heard p s) := by
    rw [exec_message rfl, whileRunning_of_high _ hrstn, fromDesk_of_online _ honline]
    rfl
  exact ⟨_, hexec, rfl, onlyConditionsReported_settle rfl, heard_frame p s⟩

end Sys2Proof.Safety
end

section
/-! SUPPORT. The words of chapter 12: a word made of placed fields is its fields one after another, the highest bits
first; a mask word has the flags of its entries. -/
namespace Sys2Proof.Safety

open Sys2Proof.Machine

/-! ## Fields as numbers -/

/-- Bits appended are a number: the high part placed above the low part. -/
theorem toNat_append_add {a b : Nat} (x : BitVec a) (y : BitVec b) : (x ++ y).toNat = x.toNat * 2 ^ b + y.toNat := by
  rw [BitVec.toNat_append, Nat.shiftLeft_eq, Nat.mul_comm, Nat.two_pow_add_eq_or_of_lt y.isLt]

theorem append_eq_ofNat {a b : Nat} (x : BitVec a) (y : BitVec b) :
    x ++ y = BitVec.ofNat (a + b) (x.toNat * 2 ^ b + y.toNat) := by
  apply BitVec.eq_of_toNat_eq
  rw [BitVec.toNat_ofNat, ← toNat_append_add, Nat.mod_eq_of_lt (x ++ y).isLt]

set_option Elab.async false in
theorem signedAt_eq (hi lo : Nat) (n : Int) : signedAt hi lo n = (BitVec.ofInt (hi + 1 - lo) n).toNat * 2 ^ lo := by
  rw [BitVec.toNat_ofInt]; rfl

/-- A flag placed at a bit; as a word of one bit it is known to be below 2. -/
theorem flagAt_eq (i : Nat) (b : Bool) : flagAt i b = (BitVec.ofBool b).toNat * 2 ^ i := by
  rw [BitVec.toNat_ofBool]; rfl

/-- A field placed is a vector of the field's width placed. -/
theorem fieldAt_eq (hi lo n : Nat) : fieldAt hi lo n = (BitVec.ofNat (hi + 1 - lo) n).toNat * 2 ^ lo := by
  rw [BitVec.toNat_ofNat]; rfl

/-- A field of 16 bits holds a number's low 16 bits. -/
theorem fieldAt_low {hi lo : Nat} (n : Nat) (h : hi + 1 - lo = 16) :
    fieldAt hi lo (n % 65536) = (BitVec.ofNat (hi + 1 - lo) n).toNat * 2 ^ lo := by
  rw [BitVec.toNat_ofNat, fieldAt, h, show 65536 = 2 ^ 16 from rfl, Nat.mod_mod]

/-- A vector placed at a bit is its low part placed there and its high part placed above it. -/
theorem placed_append {a b : Nat} (x : BitVec a) (y : BitVec b) (k : Nat) :
    (x ++ y).toNat * 2 ^ k = y.toNat * 2 ^ k + x.toNat * 2 ^ (k + b) := by
  rw [toNat_append_add, Nat.add_mul, Nat.mul_assoc, ← Nat.pow_add, Nat.add_comm b k, Nat.add_comm]

theorem placed_zero (w k : Nat) : (BitVec.ofNat w 0).toNat * 2 ^ k = 0 := by
  rw [BitVec.toNat_ofNat, Nat.zero_mod, Nat.zero_mul]

/-- A word is its vector where the vector's parts, placed one above another, make the word's number. -/
theorem ofNat_eq_of_placed {w n : Nat} {x : BitVec w} (h : x.toNat * 2 ^ 0 = n) : BitVec.ofNat w n = x := by
  rw [← h, Nat.pow_zero, Nat.mul_one, BitVec.ofNat_toNat, BitVec.setWidth_eq]

/-- `List.sum_cons` for the numbers that a word is summed from. -/
theorem sum_field_cons (n : Nat) (l : List Nat) : (n :: l).sum = n + l.sum := List.sum_cons

theorem sum_field_nil : ([] : List Nat).sum = 0 := List.sum_nil

/-! ## Words of a channel -/

theorem stepWord_eq (st : Step) : stepWord st = stepBits st := by
  refine ofNat_eq_of_placed ?_
  simp only [stepBits, placed_append, placed_zero, fieldAt_eq, flagAt_eq, sum_field_cons, sum_field_nil, -Nat.reduceAdd]

theorem phantomWord_eq (ch : Channel) : phantomWord ch = phantomBits ch := by
  refine ofNat_eq_of_placed ?_
  simp only [phantomBits, placed_append, placed_zero, fieldAt_eq, flagAt_eq, sum_field_cons, sum_field_nil,
    -Nat.reduceAdd]

set_option Elab.async false in
theorem meterWord_eq (s : State) (p : Port) (c : Chan) : meterWord s p c = meterBits s p c := by
  refine ofNat_eq_of_placed ?_
  simp only [meterBits, placed_append, placed_zero, fieldAt_eq, flagAt_eq, sum_field_cons, sum_field_nil, -Nat.reduceAdd]

set_option Elab.async false in
theorem trackWord_eq (t : Track) : trackWord t = trackBits t := by
  refine ofNat_eq_of_placed ?_
  simp only [trackBits, placed_append, placed_zero, signedAt_eq, flagAt_eq, sum_field_cons, sum_field_nil, -Nat.reduceAdd]

set_option Elab.async false in
theorem channelWord_eq (s : State) (c : Chan) : channelWord s c = channelBits s c := by
  refine ofNat_eq_of_placed ?_
  simp only [channelBits, placed_append, placed_zero, fieldAt_eq, flagAt_eq, sum_field_cons, sum_field_nil,
    -Nat.reduceAdd]

/-! ## Words of a bank, of an output and of the journal -/

theorem bankWord_eq (k : Bank) : bankWord k = bankBits k := by
  refine ofNat_eq_of_placed ?_
  simp only [bankBits, placed_append, fieldAt_eq, sum_field_cons, sum_field_nil, Nat.add_zero, -Nat.reduceAdd]

/-- The word that holds the low 16 bits of a generation. -/
theorem generationWord_eq (s : State) : payload [fieldAt 15 0 (genLow s)] = generationBits s.journal.gen := by
  refine ofNat_eq_of_placed ?_
  simp only [generationBits, genLow, placed_append, placed_zero, fieldAt_low (hi := 15) (lo := 0) _ rfl,
      sum_field_cons, sum_field_nil,
    BitVec.ofNat_toNat, -Nat.reduceAdd]

set_option Elab.async false in
theorem entryWords_eq (e : Entry) :
    entryWords e =
      [0#1 ++ e.gen.setWidth 16 ++ BitVec.ofNat 2 (partyCode e.author) ++ e.subject ++ BitVec.ofNat 3 (entryKindNo e.kind),
       0#14 ++ e.value] := by
  refine congrArg₂ List.cons (ofNat_eq_of_placed ?_) (congrArg₂ List.cons (ofNat_eq_of_placed ?_) rfl)
  all_goals simp only [placed_append, placed_zero, fieldAt_low (hi := 28) (lo := 13) _ rfl, fieldAt_eq, sum_field_cons,
    sum_field_nil, BitVec.ofNat_toNat, BitVec.setWidth_eq, -Nat.reduceAdd]

/-- An output is talked to while one of the three masks includes it. -/
theorem talkedTo_eq (s : State) (i : OutId) :
    talkedTo s i = (s.talkMask.p0 ||| s.talkMask.p1 ||| s.talkMask.p2).getLsbD i.val := by
  simp only [talkedTo, ports, List.any_cons, List.any_nil, Bool.or_false, PerPort.get, BitVec.getLsbD_or, Bool.or_assoc]

set_option Elab.async false in
theorem outputWords_eq (s : State) (i : OutId) : outputWords s i = outputBits s i := by
  refine congrArg₂ List.cons (ofNat_eq_of_placed ?_) (congrArg₂ List.cons (ofNat_eq_of_placed ?_)
    (congrArg₂ List.cons (ofNat_eq_of_placed ?_) rfl))
  · simp only [statusFields, placed_append, placed_zero, fieldAt_eq, flagAt_eq, sum_field_cons, sum_field_nil,
      BitVec.ofNat_toNat, BitVec.setWidth_eq, -Nat.reduceAdd]
  · simp only [placed_append, placed_zero, fieldAt_eq, sum_field_cons, sum_field_nil, -Nat.reduceAdd]
  · simp only [talkedTo_eq, placed_append, placed_zero, fieldAt_eq, flagAt_eq, sum_field_cons, sum_field_nil,
      -Nat.reduceAdd]

/-! ## Values of entries -/

theorem gainValue_eq (gain : Int) (pad : Bool) : gainValue gain pad = gainNews gain pad := by
  refine ofNat_eq_of_placed ?_
  simp only [gainNews, placed_append, placed_zero, fieldAt_eq, flagAt_eq, Nat.add_zero, -Nat.reduceAdd]

theorem phantomValue_eq (ch : Channel) : phantomValue ch = phantomNews ch.phantom ch.request := by
  refine ofNat_eq_of_placed ?_
  simp only [phantomNews, placed_append, placed_zero, fieldAt_eq, flagAt_eq, Nat.add_zero, -Nat.reduceAdd]

theorem bankValue_eq (k : Bank) : bankValue k = bankNews k := by
  refine ofNat_eq_of_placed ?_
  simp only [bankNews, placed_append, placed_zero, fieldAt_eq, Nat.add_zero, Nat.add_assoc, -Nat.reduceAdd]

/-! ## Masks -/

theorem flagSum_lt {n : Nat} (g : Fin n → Bool) : flagSum n g < 2 ^ n :=
  Nat.lt_pow_two_of_testBit _ fun j hj => by rw [testBit_flagSum, dif_neg (Nat.not_lt.mpr hj)]

/-- A word made of flags alone. -/
theorem payload_flags {n : Nat} (h : n ≤ 30) (g : Fin n → Bool) :
    (BitVec.ofNat 30 (flagSum n g)).toNat = flagSum n g := by
  rw [BitVec.toNat_ofNat, Nat.mod_eq_of_lt (lt_of_lt_of_le (flagSum_lt g) (Nat.pow_le_pow_right (by decide) h))]

set_option Elab.async false in
theorem isOutMask_outMask (f : OutId → Bool) :
    IsOutMask (fun o => f o = true) [payload [fieldAt 15 0 (outMask f).toNat]] := by
  have hmask : (outMask f).toNat = flagSum 16 f := by
    rw [show outMask f = BitVec.ofNat 16 (flagSum 16 f) from rfl, BitVec.toNat_ofNat, Nat.mod_eq_of_lt (flagSum_lt f)]
  have hword : payload [fieldAt 15 0 (outMask f).toNat] = BitVec.ofNat 30 (flagSum 16 f) := by
    rw [hmask]
    simp only [payload, fieldAt, sum_field_cons, sum_field_nil]
    have := flagSum_lt f
    exact congrArg (BitVec.ofNat 30) (by omega)
  refine ⟨_, rfl, ?_, fun o => ?_⟩
  · rw [hword, payload_flags (by decide)]
    exact flagSum_lt f
  · rw [hword, BitVec.getLsbD, payload_flags (by decide), testBit_flagSum, dif_pos o.isLt]

/-- The channels of a half of a mask. -/
theorem chanRange_half (from_ : Nat) (h : from_ = 0 ∨ from_ = 24) :
    chanRange from_ 24 = (List.finRange 24).map fun i => ⟨from_ + i.val, by omega⟩ := by
  rcases h with rfl | rfl <;> decide

theorem chanMask_half (f : Chan → Bool) (from_ : Nat) (h : from_ = 0 ∨ from_ = 24) :
    payload ((chanRange from_ 24).map fun c => flagAt (c.val - from_) (f c))
      = BitVec.ofNat 30 (flagSum 24 fun i => f ⟨from_ + i.val, by omega⟩) := by
  rw [chanRange_half from_ h, payload, flagSum, List.map_map]
  simp only [Function.comp_def, Nat.add_sub_cancel_left]

theorem isChanMask_chanMaskWords (f : Chan → Bool) : IsChanMask (fun c => f c = true) (chanMaskWords f) := by
  refine ⟨_, _, congrArg₂ (fun a b => [a, b]) (chanMask_half f 0 (.inl rfl)) (chanMask_half f 24 (.inr rfl)), ?_, ?_,
    fun c => ?_⟩
  · rw [payload_flags (by decide)]; exact flagSum_lt _
  · rw [payload_flags (by decide)]; exact flagSum_lt _
  · split
    next hlow =>
      rw [BitVec.getLsbD, payload_flags (by decide), testBit_flagSum, dif_pos hlow]
      simp
    next hhigh =>
      rw [BitVec.getLsbD, payload_flags (by decide), testBit_flagSum, dif_pos (by omega)]
      simp only [Nat.add_sub_cancel' (Nat.not_lt.mp hhigh), Fin.eta]

end Sys2Proof.Safety
end

section
/-! PROOFS. The tests of a message and its refusal (R46); a message that meets a full queue (R50). -/
namespace Sys2Proof.Safety

open Sys2Proof.Machine

/-! ## The fields of a message -/

theorem bodyWord_eq (m : Msg) (i : Nat) : bodyWord m i = word m i := by
  rw [bodyWord, word, List.getD_eq_getElem?_getD]

theorem value16_eq (m : Msg) : value16 m = (m.body[0]?.getD 0).setWidth 16 := by
  rw [value16, bodyWord_eq, word, BitVec.ofNat_toNat]

theorem value16_toNat (m : Msg) : (value16 m).toNat = word m 0 % 65536 := by
  rw [value16, bodyWord_eq, BitVec.toNat_ofNat]

theorem countField_eq (m : Msg) : countField m = word m 0 % 64 := by
  simp [countField, bitsAt, bodyWord_eq]

theorem sideField_eq (m : Msg) : sideField m = word m 0 / 256 % 4 := by
  simp [sideField, bitsAt, bodyWord_eq]

theorem inRange_eq (m : Msg) (i : Nat) :
    inRange m i = decide (m.arg.toNat ≤ i ∧ i < m.arg.toNat + word m 0 % 64) := by
  simp [inRange, countField_eq]

theorem chanRange_eq (m : Msg) :
    chanRange m.arg.toNat (countField m) =
      (List.finRange 48).filter fun c => decide (m.arg.toNat ≤ c.val ∧ c.val < m.arg.toNat + word m 0 % 64) := by
  simp only [chanRange, countField_eq, Bool.decide_and]

/-- The channel, the bank, the output or the key that a message's argument names. -/
theorem chanArg_eq {m : Msg} {c : Chan} (h : m.arg.toNat = c.val) : chanArg m = c :=
  Fin.ext (by simp only [chanArg, h]; omega)

set_option Elab.async false in
theorem bankArg_eq {m : Msg} {b : BankId} (h : m.arg.toNat = b.val) : bankArg m = b :=
  Fin.ext (by simp only [bankArg, h]; omega)

theorem outArg_eq {m : Msg} {o : OutId} (h : m.arg.toNat = o.val) : outArg m = o :=
  Fin.ext (by simp only [outArg, h]; omega)

theorem keyArg_eq {m : Msg} {k : KeyId} (h : m.arg.toNat = k.val) : keyArg m = k :=
  Fin.ext (by simp only [keyArg, h]; omega)

/-! ## The tests of each kind, the first that fails (R46) -/

theorem firstFailing_length (n : Nat) (m : Msg) :
    firstFailing [(m.body.length != n, .badLength)] = refuseLength n m := by
  simp only [firstFailing_cons, firstFailing_nil, refuseLength, bne_iff_ne, ite_not]

theorem badChanRange_iff (most : Nat) (m : Msg) :
    badChanRange most m = true ↔
      47 < m.arg.toNat ∨ word m 0 % 64 = 0 ∨ most < word m 0 % 64 ∨ 47 + 1 < m.arg.toNat + word m 0 % 64 := by
  simp [badChanRange, countField_eq, or_assoc]

theorem firstFailing_range (most : Nat) (m : Msg) :
    firstFailing [(m.body.length != 1, .badLength), (badChanRange most m, .badIndex)] = refuseRange 47 most m := by
  simp only [firstFailing_cons, firstFailing_nil, refuseRange, badChanRange_iff, bne_iff_ne]

theorem firstFailing_outRange (m : Msg) :
    firstFailing [(m.body.length != 1, .badLength),
      (15 < m.arg.toNat || countField m == 0 || 5 < countField m || 16 < m.arg.toNat + countField m, .badIndex)]
      = refuseRange 15 5 m := by
  simp only [firstFailing_cons, firstFailing_nil, refuseRange, countField_eq, bne_iff_ne, Bool.or_eq_true, decide_eq_true_eq,
    beq_iff_eq, or_assoc]

theorem firstFailing_side (most top : Nat) (m : Msg) :
    firstFailing [(m.body.length != 1, .badLength), (badChanRange most m, .badIndex), (top < sideField m, .badValue)]
      = refuseSide most top m := by
  simp only [refuseSide, ← firstFailing_range, firstFailing_cons, firstFailing_nil, sideField_eq, decide_eq_true_eq]
  split <;> split <;> simp_all


/-- The owner that a range test has let through is that of the channel the argument names. -/
theorem notChanOwner_iff {p : Port} {m : Msg} {s : State} (h : m.arg.toNat < 48) :
    notChanOwner p m s = true ↔ s.owners.chan[m.arg.toNat] ≠ some p := by
  have hc : chanArg m = ⟨m.arg.toNat, h⟩ := chanArg_eq rfl
  simp only [notChanOwner, hc, bne_iff_ne, Fin.getElem_fin]

theorem firstFailing_channel (binary owned : Bool) (p : Port) (m : Msg) (s : State) :
    firstFailing [(m.body.length != 1, .badLength), (47 < m.arg.toNat, .badIndex),
      (binary && 1 < (value16 m).toNat, .badValue), (owned && notChanOwner p m s, .notOwner)]
      = refuseChannel binary owned p m s := by
  simp only [firstFailing_cons, firstFailing_nil, refuseChannel, value16_toNat, bne_iff_ne, Bool.and_eq_true,
    decide_eq_true_eq]
  by_cases h : m.arg.toNat < 48
  · simp only [Nat.not_lt.mpr (Nat.le_of_lt_succ h), dif_pos h, notChanOwner_iff h, if_false]
  · simp only [Nat.lt_of_succ_le (Nat.not_lt.mp h), dif_neg h, if_true]

/-- Bits below the sixteenth are the same in a number and in its low half-word. -/
theorem bitsAt_low {hi lo : Nat} (n : Nat) (h : hi < 16) : bitsAt hi lo (n % 65536) = n / 2 ^ lo % 2 ^ (hi + 1 - lo) := by
  refine Nat.eq_of_testBit_eq fun i => ?_
  rw [bitsAt, show 65536 = 2 ^ 16 from rfl]
  simp only [Nat.testBit_mod_two_pow, Nat.testBit_div_two_pow]
  by_cases hi' : i < hi + 1 - lo
  · rw [decide_eq_true (show i + lo < 16 by omega), Bool.true_and]
  · rw [decide_eq_false hi', Bool.false_and, Bool.false_and]

theorem bitAt_low {i : Nat} (n : Nat) (h : i < 16) : bitAt i (n % 65536) = true ↔ n / 2 ^ i % 2 = 1 := by
  rw [bitAt, show 65536 = 2 ^ 16 from rfl, Nat.testBit_mod_two_pow, decide_eq_true h, Bool.true_and,
    Nat.testBit_eq_decide_div_mod_eq, decide_eq_true_eq]

set_option Elab.async false in
theorem badSource_low {lo : Nat} (n : Nat) (h : lo + 2 < 16) :
    badSource lo (n % 65536) = true ↔ n / 2 ^ lo % 2 = 1 ∧ n / 2 ^ (lo + 1) % 4 = 3 := by
  rw [badSource, Bool.and_eq_true, bitAt_low n (by omega), bitsAt_low n h, beq_iff_eq,
    show lo + 2 + 1 - (lo + 1) = 2 by omega]
  rfl

set_option Elab.async false in
theorem firstFailing_output (p : Port) (m : Msg) (s : State) :
    firstFailing [(m.body.length != 1, .badLength), (15 < m.arg.toNat, .badIndex),
      (badSource 0 (value16 m).toNat || badSource 7 (value16 m).toNat || bitsAt 15 14 (value16 m).toNat == 3, .badValue),
      ((s.owners.out[outArg m]'(outArg m).2) != some p, .notOwner)] = refuseOutput p m s := by
  have hvalue : (badSource 0 (value16 m).toNat || badSource 7 (value16 m).toNat || bitsAt 15 14
      (value16 m).toNat == 3) = true
      ↔ (word m 0 % 2 = 1 ∧ word m 0 / 2 % 4 = 3) ∨ (word m 0 / 128 % 2 = 1 ∧ word m 0 / 256 % 4 = 3)
        ∨ word m 0 / 16384 % 4 = 3 := by
    rw [value16_toNat, Bool.or_eq_true, Bool.or_eq_true, badSource_low _ (by decide), badSource_low _ (by decide),
        beq_iff_eq,
      bitsAt_low _ (by decide), or_assoc, Nat.pow_zero, Nat.div_one]
    rfl
  simp only [firstFailing_cons, firstFailing_nil, refuseOutput, hvalue, bne_iff_ne, decide_eq_true_eq]
  by_cases h : m.arg.toNat < 16
  · have ho : outArg m = ⟨m.arg.toNat, h⟩ := outArg_eq rfl
    simp only [Nat.not_lt.mpr (Nat.le_of_lt_succ h), dif_pos h, if_false, ho, Fin.getElem_fin]
  · simp only [Nat.lt_of_succ_le (Nat.not_lt.mp h), dif_neg h, if_true]

theorem ownsNoneOf_iff {p : Port} {b : BankId} {s : State} :
    ownsNoneOf p b s = true ↔ ∀ c : Chan, c.val / 8 = b.val → (s.owners.chan[c]'c.2) ≠ some p := by
  simp only [ownsNoneOf, List.all_eq_true, bne_iff_ne, mem_bankChans]

theorem firstFailing_phantomReset (p : Port) (m : Msg) (s : State) :
    firstFailing [(m.body.length != 0, .badLength), (5 < m.arg.toNat, .badIndex), (ownsNoneOf p (bankArg m) s, .notOwner)]
      = refusePhantomReset p m s := by
  simp only [firstFailing_cons, firstFailing_nil, refusePhantomReset, bne_iff_ne, decide_eq_true_eq, ownsNoneOf_iff]
  by_cases h : 5 < m.arg.toNat
  · simp only [if_pos h]
  · have hb : (bankArg m).val = m.arg.toNat := Nat.mod_eq_of_lt (by omega)
    simp only [if_neg h, hb]

theorem namedGeneration_toNat (m : Msg) : (namedGeneration m).toNat = generationNamed m := by
  have hlow (n : Nat) : bitsAt 15 0 n = n % 65536 := by rw [bitsAt, Nat.pow_zero, Nat.div_one]; rfl
  rw [namedGeneration, hlow, hlow, BitVec.toNat_ofNat, bodyWord_eq, bodyWord_eq, generationNamed]
  exact Nat.mod_eq_of_lt (by omega)

theorem generationNamed_lt (m : Msg) : generationNamed m < 4294967296 := by
  unfold generationNamed; omega

theorem firstFailing_changes (m : Msg) (s : State) :
    firstFailing [(m.body.length != 2, .badLength),
      (1 ≤ (namedGeneration m - s.journal.gen).toNat && (namedGeneration m - s.journal.gen).toNat ≤ 2 ^ 31, .badValue)]
      = refuseChanges m s := by
  have hahead : (namedGeneration m - s.journal.gen).toNat
      = (generationNamed m + 4294967296 - s.journal.gen.toNat) % 4294967296 := by
    rw [BitVec.toNat_sub, namedGeneration_toNat]
    congr 1; omega
  simp only [firstFailing_cons, firstFailing_nil, refuseChanges, hahead, bne_iff_ne, Bool.and_eq_true, decide_eq_true_eq,
    Nat.reducePow]

theorem priorityCodes_eq (v : Nat) : priorityCodes v = priorityEntries v := by
  have hlength : priorityLength v = v % 8 := by simp [priorityLength, bitsAt]
  rw [priorityCodes, priorityEntries, hlength]
  split
  next h => rw [h]; rfl
  next h => rw [h]; rfl
  next h => rw [h]; rfl
  next h0 h1 h2 =>
    have hlast : min 3 (v % 8) = 3 := by
      have : v % 8 ≠ 0 ∧ v % 8 ≠ 1 ∧ v % 8 ≠ 2 := ⟨h0, h1, h2⟩
      omega
    rw [hlast]; rfl

theorem firstFailing_item (i : Item) (m : SettingMsg) :
    let v := (value16 (itemMsg i m)).toNat
    firstFailing [(m.body.length != 1, .badLength), (itemBadIndex i v, .badIndex), (itemBadValue i v, .badValue)]
      = refuseItem i m := by
  intro v
  have hv : v = (m.body[0]?.getD 0).toNat % 65536 := value16_toNat _
  simp only [firstFailing_cons, firstFailing_nil, refuseItem, hv, bne_iff_ne]
  refine if_congr Iff.rfl rfl ?_
  cases i <;> simp only [itemBadIndex, itemBadValue, decide_eq_true_eq, if_false, Bool.false_eq_true]
  case clockPriority =>
    have hlength (w : Nat) : priorityLength w = w % 8 := by simp [priorityLength, bitsAt]
    simp only [hlength, priorityCodes_eq, Bool.or_eq_true, decide_eq_true_eq, List.contains_iff_mem, Bool.not_eq_true',
      decide_eq_false_iff_not, or_assoc]

end Sys2Proof.Safety
end

section
/-! SUPPORT. Reports in a row: what several reports of conditions, or an event after one, have reported together. -/
namespace Sys2Proof.Safety

open Sys2Proof.Machine

/-! ## Masks, bit by bit -/

/-- Every flag of a mask is among those of another. -/
theorem and_not_eq_zero {x y : BitVec 12} : x &&& ~~~y = 0 ↔ ∀ (i : Nat) (_ : i < 12), x[i] = true → y[i] = true := by
  constructor
  · intro h i hi hx
    have hbit := congrArg (fun v : BitVec 12 => v[i]) h
    simpa [hx] using hbit
  · intro h
    ext i hi
    have hbit := h i hi
    cases hx : x[i] <;> simp_all

theorem exists_faultNo : ∀ i : Fin 12, ∃ k : FaultKind, faultNo k = i := by
  intro i
  have hall : ∀ i : Fin 12, faultKinds.any (fun k => faultNo k == i) = true := by decide
  obtain ⟨k, -, hk⟩ := List.any_eq_true.mp (hall i)
  exact ⟨k, by simpa using hk⟩

/-- Conditions each of which holds in one of two states. -/
theorem conditionsOf_within {r s u : State} {p : Port}
    (h : ∀ k, conditionHolds r p k = true → conditionHolds s p k = true ∨ conditionHolds u p k = true) :
    conditionsOf r p &&& ~~~(conditionsOf s p ||| conditionsOf u p) = 0 := by
  rw [and_not_eq_zero]
  intro i hi hr
  obtain ⟨k, hk⟩ := exists_faultNo ⟨i, hi⟩
  have hbit (t : State) : (conditionsOf t p)[i] = conditionHolds t p k := by
    rw [← conditionsOf_bit, hk, BitVec.getLsbD_eq_getElem hi]
  rw [BitVec.getElem_or, hbit, hbit, Bool.or_eq_true]
  exact h k (by rwa [← hbit])

/-! ## Two reports of conditions -/

set_option Elab.async false in
/-- Two reports of conditions in a row, where no condition that the first made is gone at the second, but one that there
was before. -/
theorem onlyConditionsReported_twice {s r u : State} (hr : r.faults = s.faults) (hu : u.faults = (settle r).faults)
    (h : ∀ p, conditionsOf r p &&& ~~~(conditionsOf s p ||| conditionsOf u p) = 0) : OnlyConditionsReported s
        (settle u) := by
  refine ⟨fun p => ?_, by rw [settle_stretch, hu, settle_stretch, hr], settle_driven u⟩
  have hp := h p
  simp only [reportable, settle_active, settle_sticky, conditionsOf_settle, hu, hr, and_not_eq_zero, true_and] at hp ⊢
  simp only [BitVec.getElem_or, BitVec.getElem_and, BitVec.getElem_not, Bool.or_eq_true, Bool.and_eq_true,
    Bool.not_eq_true'] at hp ⊢
  refine ⟨fun i hi ha => .inl (.inl ha), fun i hi ha => ?_, fun i hi hc => ?_⟩
  · rcases ha with (ha | ⟨hn, hd⟩) | ⟨hn, -⟩
    · exact .inl ha
    · exact .inr ((hp i hi hn).elim (fun hc => .inr ⟨hc, hd⟩) .inl)
    · exact .inr (.inl hn)
  · by_cases hd : (s.faults.active.get p)[i] = true
    · exact .inl hd
    · by_cases hn : (conditionsOf r p)[i] = true
      · exact .inr (.inl (.inr ⟨hn, Bool.eq_false_iff.mpr hd⟩))
      · exact .inr (.inr ⟨hc, Bool.eq_false_iff.mpr hn⟩)

/-- Being heard makes no condition hold: it can only end DESK_ABSENT. -/
theorem conditionHolds_heard {p q : Port} {s : State} (k : FaultKind) (h : conditionHolds (heard p s) q k = true) :
    conditionHolds s q k = true := by
  cases k
  case deskAbsent =>
    obtain ⟨r, x, henabled, habsent⟩ := deskAbsentHolds_iff.mp h
    refine deskAbsentHolds_iff.mpr ⟨r, x, henabled, ?_⟩
    rw [heard_presence] at habsent
    by_cases hr : r = p
    · rw [hr, PerPort.get_set_self] at habsent
      exact absurd habsent (by decide)
    · rwa [PerPort.get_set_ne _ _ hr] at habsent
  all_goals exact h

/-- A report after the port has been heard, and beside that no change of the fault block. -/
theorem onlyConditionsReported_heard {p : Port} {s u : State} (hu : u.faults = (heard p s).faults) :
    OnlyConditionsReported s (settle u) := by
  refine onlyConditionsReported_twice (r := setPresence p { present := true, running := true, elapsed := 0 } s) rfl hu ?_
  intro q
  refine conditionsOf_within fun k hk => .inl (conditionHolds_heard (p := p) k ?_)
  rw [← conditionsOf_bit] at hk ⊢
  rwa [heard, conditionsOf_settle]

/-! ## Reports seen from a state that differs in blocks no condition reads -/

/-- A report of conditions is one too where blocks that neither a condition nor a line reads have changed since. -/
theorem OnlyConditionsReported.of_same {l : List Block} {s t u : State} (h : OnlyConditionsReported s t)
    (hsame : SameExcept l t u) (hfaults : .faults ∉ l := by decide) (hsettings : .settings ∉ l := by decide)
    (hconditions : ∀ b ∈ conditionBlocks, b ∉ l := by decide) : OnlyConditionsReported s u := by
  obtain ⟨hports, hstretch, hlines⟩ := h
  have hf : u.faults = t.faults := hsame .faults hfaults
  have hs : u.settings = t.settings := hsame .settings hsettings
  refine ⟨fun p => ?_, by rw [hf, hstretch], fun j => ?_⟩
  · have hc := conditionsOf_frame hsame p hconditions
    simp only [reportable, hf, hc]
    exact hports p
  · rw [hf, hlines, lineDriven_congr (congrArg Faults.stretch hf) (congrArg Faults.active hf) hs]

/-- A report after the port has been heard, and the reply. -/
theorem onlyConditionsReported_replied {p : Port} {r : Reply} {s u : State} (hu : u.faults = (heard p s).faults) :
    OnlyConditionsReported s (replied p r (settle u)) :=
  (onlyConditionsReported_heard hu).of_same (replied_frame p r _)

/-! ## An event after a report -/

theorem eventReported_raise_settle {scope : Port → Bool} {P : Port → Prop} {k : FaultKind} {s r : State}
    (hscope : ∀ p, P p ↔ scope p = true) (hr : r.faults = s.faults) (hsettings : r.settings = s.settings) :
    EventReported P k s (raiseFor scope k (settle r)) := by
  have hconditions (p : Port) : conditionsOf (raiseFor scope k (settle r)) p = conditionsOf r p := by
    rw [conditionsOf_frame (raiseFor_frame _ _ _), conditionsOf_settle]
  refine ⟨fun p => ?_, .inr fun p => ?_, fun l => ?_, raiseFor_driven _ _ _⟩
  · simp only [reportable, hconditions, hscope, raiseFor_sticky, settle_sticky, hr]
    obtain ⟨hkept, hset, -⟩ := report_bits (s.faults.sticky.get p) (conditionsOf r p) (s.faults.active.get p)
      (conditionsOf s p &&& ~~~ s.faults.active.get p)
    by_cases h : scope p = true
    · rw [if_pos h]
      simp only [and_not_eq_zero, BitVec.getElem_or, Bool.or_eq_true] at hkept hset ⊢
      refine ⟨fun i hi ha => .inl (.inl ha), fun _ => ?_, fun i hi ha => ?_, fun hout => absurd h hout⟩
      · ext i hi
        rw [BitVec.getElem_and, BitVec.getElem_or]
        cases (faultBit k)[i] <;> simp
      · rcases ha with ha | hk
        · exact .inl (hset i hi ha)
        · exact .inr hk
    · rw [if_neg h]
      exact ⟨hkept, fun hin => absurd hin h, within_or hset _, fun _ => hset⟩
  · rw [raiseFor_active, settle_active, hconditions]
  · rw [raiseFor_stretch_get, settle_stretch, hr, (settle_fields r).2.2.2.2.2.2.2.2.2.2.2.2.2.1, hsettings]

end Sys2Proof.Safety
end

section
/-! PROOFS. A message that is not executed changes nothing but presence (R45, R46, R50). -/
namespace Sys2Proof.Safety

open Sys2Proof.Machine

/-- A row that hands a message of its port to the handler of its kind. -/
def Delivers (c : Instr) (s : State) (p : Port) (kind : BitVec 6) (m : Msg)
    (handler : Port → Msg → State → Answer) : Prop :=
  ∃ f, exec c s = whileRunning s (fromDesk p f) ∧ f s = deliver p kind m handler s

section
variable {c : Instr} {s : State} {p : Port} {kind : BitVec 6} {m : Msg} {handler : Port → Msg → State → Answer}

theorem Delivers.exec (h : Delivers c s p kind m handler) (hrstn : s.rstn = true) (honline : online s p = true) :
    exec c s = .next (deliver p kind m handler s) := by
  obtain ⟨f, he, hf⟩ := h
  rw [he, whileRunning_of_high _ hrstn, fromDesk_of_online _ honline, hf]

theorem judged_refused {tests : List (Bool × Code)} {code : Code} {a : Answer} (h : firstFailing tests = some code) :
    judged tests s a = refuse code s := by
  rw [judged_eq, h]; rfl

theorem judged_executed {tests : List (Bool × Code)} {a : Answer} (h : firstFailing tests = none) :
    judged tests s a = a := by
  rw [judged_eq, h]; rfl

end

/-! ## The tests of SET_GAIN and SET_TRIM are those of SET_PAD with some left out -/

theorem firstFailing_gain (p : Port) (m : Msg) (s : State) :
    firstFailing [(m.body.length != 1, .badLength), (47 < m.arg.toNat, .badIndex), (notChanOwner p m s, .notOwner)]
      = refuseChannel false true p m s := by
  rw [← firstFailing_channel]
  simp only [firstFailing_cons, Bool.false_and, Bool.true_and, Bool.false_eq_true, if_false]

theorem firstFailing_trim (p : Port) (m : Msg) (s : State) :
    firstFailing [(m.body.length != 1, .badLength), (47 < m.arg.toNat, .badIndex)]
      = refuseChannel false false p m s := by
  rw [← firstFailing_channel]
  simp only [firstFailing_cons, Bool.false_and, Bool.false_eq_true, if_false]

/-- A kind without a BODY word that names one of a few subjects. -/
theorem firstFailing_subject (top : Nat) (m : Msg) :
    firstFailing [(m.body.length != 0, .badLength), (top < m.arg.toNat, .badIndex)]
      = if m.body.length ≠ 0 then some .badLength else if top < m.arg.toNat then some .badIndex else none := by
  simp only [firstFailing_cons, firstFailing_nil, bne_iff_ne, decide_eq_true_eq]

/-! ## WRITE_SETTING -/

set_option Elab.async false in
theorem itemOf_itemNo (i : Item) : itemOf (itemNo i) = some i := by
  cases i
  case timeout p => cases p <;> rfl
  case policy p => cases p <;> rfl
  case key k => revert k; decide
  case alarm f => cases f <;> rfl
  all_goals rfl

theorem itemNo_lt (i : Item) : itemNo i < 28 := by
  obtain ⟨h, -⟩ := List.getElem?_eq_some_iff.mp (itemOf_itemNo i)
  exact h

theorem itemOf_itemMsg (i : Item) (m : SettingMsg) : itemOf (itemMsg i m).arg.toNat = some i := by
  have h : (itemMsg i m).arg.toNat = itemNo i := by
    have := itemNo_lt i
    rw [itemMsg, BitVec.toNat_ofNat, Nat.mod_eq_of_lt (by omega)]
  rw [h, itemOf_itemNo]

/-- A WRITE_SETTING of a named item. -/
theorem answerWriteSetting_item (p : Port) (i : Item) (m : SettingMsg) (s : State) :
    answerWriteSetting p (itemMsg i m) s
      = answerUnless (refuseItem i m) s (writeItem p i (value16 (itemMsg i m)).toNat s) := by
  unfold answerWriteSetting
  rw [itemOf_itemMsg, ← firstFailing_item]
  exact judged_eq _ _ _

theorem answerWriteSetting_refused {p : Port} {i : Item} {m : SettingMsg} {code : Code} (h : refuseItem i m = some code)
    (s : State) : answerWriteSetting p (itemMsg i m) s = refuse code s := by
  rw [answerWriteSetting_item, h]; rfl

/-- A WRITE_SETTING of an item above 27. -/
theorem answerWriteSetting_badItem {p : Port} {m : Msg} (h : 27 < m.arg.toNat) (s : State) :
    answerWriteSetting p m s = refuse (if m.body.length ≠ 1 then .badLength else .badIndex) s := by
  have hnone : itemOf m.arg.toNat = none := List.getElem?_eq_none (by simpa [items, faultKinds] using Nat.succ_le_of_lt h)
  unfold answerWriteSetting
  rw [hnone]
  simp only [bne_iff_ne]

theorem kindOf_unknown {kind : BitVec 6} (h : unknownKind kind = true) : kindOf kind = none := by
  revert kind; decide

/-! ## Refusals -/

set_option Elab.async false in
/-- A row that names a refusal hands its message to a handler, which refuses it with that code (R46). -/
theorem delivers_refusal {c : Instr} {s : State} {p : Port} {kind : BitVec 6} {tag : BitVec 8} {refusal : Option Code}
    (h : refusalOf s c = some (p, kind, tag, refusal)) (hwf : c.wf = true) :
    ∃ m handler, Delivers c s p kind m handler ∧ m.tag = tag
      ∧ ∀ code, refusal = some code → handler p m (heard p s) = refuse code (heard p s) := by
  cases c <;> cases h
  case unknownKindMessage m =>
    have hkind : kindOf kind = none := kindOf_unknown (Bool.and_eq_true_iff.mp hwf).1
    refine ⟨m, answerUnknown, ⟨completeMessage p kind m, rfl, ?_⟩, rfl, fun code hc => ?_⟩
    · rw [completeMessage, hkind]
    · obtain rfl := Option.some.inj hc
      rfl
  case writeSettingBadItem m =>
    have harg : 27 < m.arg.toNat := of_decide_eq_true (Bool.and_eq_true_iff.mp hwf).1
    refine ⟨m, answerWriteSetting, ⟨_, rfl, rfl⟩, rfl, fun code hc => ?_⟩
    rw [answerWriteSetting_badItem harg]
    split at hc
    · next hlength => rw [if_pos hlength]; cases hc; rfl
    · next hlength => rw [if_neg hlength]; cases hc; rfl
  case claimChannels m =>
    exact ⟨m, _, ⟨_, rfl, rfl⟩, rfl, fun code hc => judged_refused ((firstFailing_range 48 m).trans hc)⟩
  case releaseChannels m =>
    exact ⟨m, _, ⟨_, rfl, rfl⟩, rfl, fun code hc => judged_refused ((firstFailing_range 48 m).trans hc)⟩
  case claimOutputs m =>
    exact ⟨m, _, ⟨_, rfl, rfl⟩, rfl, fun code hc => judged_refused ((firstFailing_length 1 m).trans hc)⟩
  case releaseOutputs m =>
    exact ⟨m, _, ⟨_, rfl, rfl⟩, rfl, fun code hc => judged_refused ((firstFailing_length 1 m).trans hc)⟩
  case readOwners m =>
    exact ⟨m, _, ⟨_, rfl, rfl⟩, rfl, fun code hc => judged_refused ((firstFailing_length 0 m).trans hc)⟩
  case setGain m =>
    exact ⟨m, _, ⟨_, rfl, rfl⟩, rfl, fun code hc => judged_refused ((firstFailing_gain p m _).trans hc)⟩
  case setPad m =>
    exact ⟨m, _, ⟨_, rfl, rfl⟩, rfl, fun code hc => judged_refused ((firstFailing_channel true true p m _).trans hc)⟩
  case setPhantom m =>
    exact ⟨m, _, ⟨_, rfl, rfl⟩, rfl, fun code hc => judged_refused ((firstFailing_channel true true p m _).trans hc)⟩
  case readMeters m =>
    exact ⟨m, _, ⟨_, rfl, rfl⟩, rfl, fun code hc => judged_refused ((firstFailing_subject 5 m).trans hc)⟩
  case setTrim m =>
    exact ⟨m, _, ⟨_, rfl, rfl⟩, rfl, fun code hc => judged_refused ((firstFailing_trim p m _).trans hc)⟩
  case setTracking m =>
    exact ⟨m, _, ⟨_, rfl, rfl⟩, rfl, fun code hc => judged_refused ((firstFailing_side 48 1 m).trans hc)⟩
  case readTracking m =>
    exact ⟨m, _, ⟨_, rfl, rfl⟩, rfl, fun code hc => judged_refused ((firstFailing_side 15 2 m).trans hc)⟩
  case phantomReset m =>
    exact ⟨m, _, ⟨_, rfl, rfl⟩, rfl, fun code hc => judged_refused ((firstFailing_phantomReset p m _).trans hc)⟩
  case readPhantom m =>
    exact ⟨m, _, ⟨_, rfl, rfl⟩, rfl, fun code hc => judged_refused ((firstFailing_length 0 m).trans hc)⟩
  case readChanges m =>
    exact ⟨m, _, ⟨_, rfl, rfl⟩, rfl, fun code hc => judged_refused ((firstFailing_changes m _).trans hc)⟩
  case readChannels m =>
    exact ⟨m, _, ⟨_, rfl, rfl⟩, rfl, fun code hc => judged_refused ((firstFailing_range 14 m).trans hc)⟩
  case readSettings m =>
    exact ⟨m, _, ⟨_, rfl, rfl⟩, rfl, fun code hc => judged_refused ((firstFailing_length 0 m).trans hc)⟩
  case readClock m =>
    exact ⟨m, _, ⟨_, rfl, rfl⟩, rfl, fun code hc => judged_refused ((firstFailing_length 0 m).trans hc)⟩
  case setOutput m =>
    exact ⟨m, _, ⟨_, rfl, rfl⟩, rfl, fun code hc => judged_refused ((firstFailing_output p m _).trans hc)⟩
  case readOutputs m =>
    exact ⟨m, _, ⟨_, rfl, rfl⟩, rfl, fun code hc => judged_refused ((firstFailing_outRange m).trans hc)⟩
  case talk m =>
    exact ⟨m, _, ⟨_, rfl, rfl⟩, rfl, fun code hc => judged_refused ((firstFailing_length 1 m).trans hc)⟩
  case ackCall m =>
    exact ⟨m, answerAckCall s, ⟨_, rfl, rfl⟩, rfl, fun code hc => judged_refused ((firstFailing_subject 3 m).trans hc)⟩
  case clearFaults m =>
    exact ⟨m, _, ⟨_, rfl, rfl⟩, rfl, fun code hc => judged_refused ((firstFailing_length 1 m).trans hc)⟩
  case readFaults m =>
    exact ⟨m, _, ⟨_, rfl, rfl⟩, rfl, fun code hc => judged_refused ((firstFailing_length 0 m).trans hc)⟩
  all_goals exact ⟨itemMsg _ _, answerWriteSetting, ⟨_, rfl, rfl⟩, rfl, fun code hc => answerWriteSetting_refused hc _⟩

/-- Settles O18: a refused message leaves the state in which its port has been heard, and one that meets a full queue
raises REPLY_OVERRUN in it. -/
theorem messageNotExecutedChangesNothingButPresence : Obligations.MessageNotExecutedChangesNothingButPresence := by
  refine ⟨fun c s p kind tag code h hwf hr => ?_, fun c s p kind tag code h hwf hrstn honline hfull => ?_⟩
  · obtain ⟨m, handler, hdelivers, rfl, hrefused⟩ := delivers_refusal h hwf
    refine ⟨replied p ⟨kind, m.tag, code, []⟩ (heard p s), ?_,
      answered_replied (.refl _ _) List.not_mem_nil List.not_mem_nil, rfl⟩
    rw [hdelivers.exec hr.1 hr.2.1, deliver_of_room hr.2.2, hrefused code rfl]
    exact congrArg _ (enqueue_of_online hr.2.1)
  · obtain ⟨m, handler, hdelivers, -, -⟩ := delivers_refusal h hwf
    refine ⟨raiseAt .replyOverrun p (heard p s), ?_, rfl, eventReported_raise_settle (by simp) rfl rfl, ?_⟩
    · rw [hdelivers.exec hrstn honline, deliver_of_full hfull]
    · exact ((heard_frame p s).mono (by simp)).trans ((raiseAt_frame _ _ _).mono (by simp))

end Sys2Proof.Safety
end

section
/-! PROOFS. The reads: READ_OWNERS, READ_TRACKING, READ_PHANTOM, READ_CHANNELS, READ_OUTPUTS, READ_FAULTS, READ_CLOCK,
READ_SETTINGS and READ_CHANGES. -/
namespace Sys2Proof.Safety

open Sys2Proof.Machine

/-- The state after a read: the port heard and the reply queued. -/
theorem exec_read {c : Instr} {p : Port} {kind : BitVec 6} {m : Msg} {handler : Port → Msg → State → Answer} {s : State}
    {code : Code} {body : List Payload} (hr : Ready p s)
    (hexec : exec c s = whileRunning s (fromDesk p (deliver p kind m handler)))
    (hanswer : handler p m (heard p s) = ⟨code, body, heard p s⟩) :
    exec c s = .next (replied p ⟨kind, m.tag, code, body⟩ (heard p s))
      ∧ Answered p ⟨kind, m.tag, code, body⟩ [] s (replied p ⟨kind, m.tag, code, body⟩ (heard p s))
      ∧ FaultsAsHeard p s (replied p ⟨kind, m.tag, code, body⟩ (heard p s)) := by
  obtain ⟨he, hanswered⟩ := exec_answered hr hexec hanswer (.refl [] _)
  exact ⟨he, hanswered, rfl⟩

/-! ## READ_OWNERS: fifteen party codes to a word -/

/-- The sum of two-bit fields placed one after another. -/
def codeSum (l : List (Option Port)) : Nat := (l.mapIdx fun j o => fieldAt (2 * j + 1) (2 * j) (partyCode o)).sum

theorem codeSum_cons (o : Option Port) (l : List (Option Port)) : codeSum (o :: l) = partyCode o + 4 * codeSum l := by
  have hcode : partyCode o % 4 = partyCode o := by cases o with | none => rfl | some p => cases p <;> rfl
  have hshift (j : Nat) (o : Option Port) : fieldAt (2 * (j + 1) + 1) (2 * (j + 1)) (partyCode o)
      = 4 * fieldAt (2 * j + 1) (2 * j) (partyCode o) := by
    have h (n : Nat) : 2 * n + 1 + 1 - 2 * n = 2 := by omega
    rw [fieldAt, fieldAt, h, h, Nat.mul_succ, Nat.pow_add]; ring
  have hscale (l : List (Option Port)) : (l.mapIdx fun j o => 4 * fieldAt (2 * j + 1) (2 * j) (partyCode o)).sum
      = 4 * codeSum l := by
    calc _ = ((l.mapIdx fun j o => fieldAt (2 * j + 1) (2 * j) (partyCode o)).map fun n => 4 * n).sum := by
          exact congrArg _ (List.ext_getElem (by simp) fun j _ _ => by simp)
      _ = 4 * codeSum l := by rw [List.sum_map_mul_left, List.map_id']; rfl
  rw [codeSum, List.mapIdx_cons, sum_field_cons]
  simp only [hshift, hscale]
  simp [fieldAt, hcode]

theorem codeSum_lt (l : List (Option Port)) : codeSum l < 4 ^ l.length := by
  induction l with
  | nil => decide
  | cons o l ih =>
    have hcode : partyCode o < 4 := by cases o with | none => decide | some p => cases p <;> decide
    rw [codeSum_cons, List.length_cons, Nat.pow_succ]
    omega

set_option Elab.async false in
/-- A field of the sum is its entry's code, and 0 beyond the last. -/
theorem codeSum_digit (l : List (Option Port)) (j : Nat) :
    codeSum l / 4 ^ j % 4 = match l[j]? with | some o => partyCode o | none => 0 := by
  induction l generalizing j with
  | nil => simp [codeSum]
  | cons o l ih =>
    have hcode : partyCode o < 4 := by cases o with | none => decide | some p => cases p <;> decide
    rw [codeSum_cons]
    cases j with
    | zero => simp; omega
    | succ j =>
      rw [Nat.pow_succ', ← Nat.div_div_eq_div_mul, List.getElem?_cons_succ, ← ih]
      congr 2; omega

theorem ownerWord_toNat (s : State) (i : Nat) :
    (ownerWord s i).toNat = codeSum (((ownerSeq s).drop (15 * i)).take 15) := by
  have hlt := codeSum_lt (((ownerSeq s).drop (15 * i)).take 15)
  have hlength : (((ownerSeq s).drop (15 * i)).take 15).length ≤ 15 := List.length_take_le _ _
  have hpow : 4 ^ (((ownerSeq s).drop (15 * i)).take 15).length ≤ 2 ^ 30 :=
    le_trans (Nat.pow_le_pow_right (by decide) hlength) (by decide)
  exact (BitVec.toNat_ofNat _ _).trans (Nat.mod_eq_of_lt (lt_of_lt_of_le hlt hpow))

theorem ownerWord_digit (s : State) (i : Nat) :
    (ownerWord s (i / 15)).toNat / 4 ^ (i % 15) % 4
      = if i < 64 then partyCode ((ownerSeq s)[i]?.getD none) else 0 := by
  have hlength : (ownerSeq s).length = 64 := by simp [ownerSeq]
  have hindex : 15 * (i / 15) + i % 15 = i := Nat.div_add_mod i 15
  rw [ownerWord_toNat, codeSum_digit, List.getElem?_take_of_lt (Nat.mod_lt _ (by decide)), List.getElem?_drop, hindex]
  split
  · next o ho =>
    obtain ⟨hi, -⟩ := List.getElem?_eq_some_iff.mp ho
    rw [if_pos (hlength ▸ hi), ho, Option.getD_some]
  · next ho =>
    rw [if_neg (by rw [← hlength]; exact Nat.not_lt.mpr (List.getElem?_eq_none_iff.mp ho))]

theorem presenceWord_eq (s : State) :
    payload (ports.map fun q => flagAt (portNo q) (s.presence.get q).present)
      = 0#27 ++ BitVec.ofBool s.presence.p2.present ++ BitVec.ofBool s.presence.p1.present
        ++ BitVec.ofBool s.presence.p0.present := by
  refine ofNat_eq_of_placed ?_
  simp only [ports, List.map_cons, List.map_nil, portNo, PerPort.get, placed_append, placed_zero, flagAt_eq,
    sum_field_cons, sum_field_nil, -Nat.reduceAdd]

/-! ## READ_FAULTS -/

set_option Elab.async false in
theorem faultWords_eq (f : Faults) (p : Port) :
    [payload [fieldAt 11 0 (f.sticky.get p).toNat, fieldAt 23 12 (f.active.get p).toNat],
      payload [flagAt 0 f.driven.line0, fieldAt 13 1 f.stretch.line0, flagAt 14 f.driven.line1,
        fieldAt 27 15 f.stretch.line1]]
      = [0#6 ++ f.active.get p ++ f.sticky.get p,
         0#2 ++ BitVec.ofNat 13 f.stretch.line1 ++ BitVec.ofBool f.driven.line1
           ++ BitVec.ofNat 13 f.stretch.line0 ++ BitVec.ofBool f.driven.line0] := by
  refine congrArg₂ List.cons (ofNat_eq_of_placed ?_) (congrArg₂ List.cons (ofNat_eq_of_placed ?_) rfl)
  · simp only [placed_append, placed_zero, fieldAt_eq, sum_field_cons, sum_field_nil, BitVec.ofNat_toNat,
      BitVec.setWidth_eq, -Nat.reduceAdd]
  · simp only [placed_append, placed_zero, fieldAt_eq, flagAt_eq, sum_field_cons, sum_field_nil, -Nat.reduceAdd]

theorem portOf_portNo (q : Port) : portOf (portNo q) = some q := by cases q <;> rfl

set_option Elab.async false in
/-- Settles O45. -/
theorem readsOfTablesAnswerTheStateAsItStands : Obligations.ReadsOfTablesAnswerTheStateAsItStands := by
  intro p m s hr first chans outs owners
  have hchans : chanRange m.arg.toNat (countField m) = chans := chanRange_eq m
  have houts : outRange m.arg.toNat (countField m) = outs := by
    simp only [outs, first, outRange, countField_eq, Bool.decide_and]
  refine ⟨fun h => ?_, fun h q hq => ?_, fun h => ?_, fun h => ?_, fun h => ?_, fun h => ?_⟩
  · obtain ⟨he, hanswered, hfaults⟩ := exec_read (c := .readOwners p m) hr (by rfl)
      (judged_executed ((firstFailing_length 0 m).trans h))
    refine ⟨_, _, he, hanswered, hfaults, rfl, fun i hi => ?_, presenceWord_eq _⟩
    have hword : ((List.range 5).map (ownerWord (heard p s)) ++ [payload (ports.map fun q =>
        flagAt (portNo q) ((heard p s).presence.get q).present)])[i / 15]? = some (ownerWord (heard p s) (i / 15)) := by
      rw [List.getElem?_append_left (by simp; omega), List.getElem?_map, List.getElem?_range (by omega)]
      rfl
    rw [hword]
    exact ownerWord_digit _ i
  · have hside : portOf (sideField m) = some q := by rw [sideField_eq, hq, portOf_portNo]
    have hanswer : answerReadTracking p m (heard p s)
        = ⟨.done, chans.map fun c => trackBits ((s.tracks.get q)[c]'c.2), heard p s⟩ := by
      unfold answerReadTracking
      rw [hside]
      refine (judged_executed ((firstFailing_side 15 2 m).trans h)).trans ?_
      simp only [hchans, trackWord_eq, heard_fields]
    obtain ⟨he, hanswered, hfaults⟩ := exec_read (c := .readTracking p m) hr (by rfl) hanswer
    exact ⟨_, he, hanswered, hfaults⟩
  · have hanswer : answerReadPhantom p m (heard p s) = ⟨.done, s.phantom.banks.toList.map bankBits, heard p s⟩ := by
      refine (judged_executed ((firstFailing_length 0 m).trans h)).trans ?_
      simp only [funext bankWord_eq, heard_fields]
    obtain ⟨he, hanswered, hfaults⟩ := exec_read (c := .readPhantom p m) hr (by rfl) hanswer
    exact ⟨_, he, hanswered, hfaults⟩
  · have hanswer : answerReadChannels p m (heard p s)
        = ⟨.done, chans.map (channelBits s) ++ [generationBits s.journal.gen], heard p s⟩ := by
      refine (judged_executed ((firstFailing_range 14 m).trans h)).trans ?_
      rw [hchans, generationWord_eq, funext (channelWord_eq (heard p s))]
      rfl
    obtain ⟨he, hanswered, hfaults⟩ := exec_read (c := .readChannels p m) hr (by rfl) hanswer
    exact ⟨_, he, hanswered, hfaults⟩
  · have hanswer : answerReadOutputs p m (heard p s) = ⟨.done, outs.flatMap (outputBits s), heard p s⟩ := by
      refine (judged_executed ((firstFailing_outRange m).trans h)).trans ?_
      have hbits : outputWords (heard p s) = outputBits s := by
        funext i
        rw [outputWords_eq]
        simp only [outputBits, heard_fields, available_heard]
      rw [houts, hbits]
    obtain ⟨he, hanswered, hfaults⟩ := exec_read (c := .readOutputs p m) hr (by rfl) hanswer
    exact ⟨_, he, hanswered, hfaults⟩
  · obtain ⟨he, hanswered, hfaults⟩ := exec_read (c := .readFaults p m) (handler := answerReadFaults) hr (by rfl)
      ((judged_executed ((firstFailing_length 0 m).trans h)).trans
        (congrArg (fun body => Answer.mk .done body (heard p s)) (faultWords_eq (heard p s).faults p)))
    exact ⟨_, he, hfaults, hanswered⟩

end Sys2Proof.Safety
end

section
/-! PROOFS. READ_CLOCK, READ_SETTINGS, READ_CHANGES, READ_METERS, CLEAR_FAULTS, TALK and ACK_CALL. -/
namespace Sys2Proof.Safety

open Sys2Proof.Machine

/-! ## READ_CLOCK (R36) -/

theorem priorityForm_eq (l : List Port) :
    priorityForm l = fieldAt 2 0 l.length + fieldAt 4 3 ((l[0]?.map portNo).getD 0) + fieldAt 6 5 ((l[1]?.map portNo).getD 0)
      + fieldAt 8 7 ((l[2]?.map portNo).getD 0) := by
  rcases l with _ | ⟨a, _ | ⟨b, _ | ⟨c, l⟩⟩⟩ <;> rfl

/-- The stored form of a priority list is its entries above its length. -/
theorem priorityForm_bits (l : List Port) :
    let entry (i : Nat) : BitVec 2 := BitVec.ofNat 2 ((l[i]?.map portNo).getD 0)
    priorityForm l = (entry 2 ++ entry 1 ++ entry 0 ++ BitVec.ofNat 3 l.length).toNat := by
  intro entry
  rw [← Nat.mul_one (BitVec.toNat _), ← Nat.pow_zero 2, priorityForm_eq]
  simp only [placed_append, fieldAt_eq, entry, Nat.add_assoc, -Nat.reduceAdd]

set_option Elab.async false in
theorem clockWord1_eq (s : State) :
    let path (q : Port) (x : PathName) : BitVec 3 := BitVec.ofNat 3 (pathStateNo ((s.paths.get q).get x).state)
    let entry (i : Nat) : BitVec 2 := BitVec.ofNat 2 ((s.settings.clockPriority[i]?.map portNo).getD 0)
    clockWord1 s = 0#1 ++ path .p2 .b ++ path .p2 .a ++ path .p1 .b ++ path .p1 .a ++ path .p0 .b ++ path .p0 .a
      ++ entry 2 ++ entry 1 ++ entry 0 ++ BitVec.ofNat 3 s.settings.clockPriority.length
      ++ BitVec.ofNat 2 (partyCode s.clock.source) := by
  intro path entry
  have hfields : clockWord1 s = payload [fieldAt 1 0 (partyCode s.clock.source),
      fieldAt 10 2 (priorityForm s.settings.clockPriority),
      fieldAt 13 11 (pathStateNo (pathRec s .p0 .a).state), fieldAt 16 14 (pathStateNo (pathRec s .p0 .b).state),
      fieldAt 19 17 (pathStateNo (pathRec s .p1 .a).state), fieldAt 22 20 (pathStateNo (pathRec s .p1 .b).state),
      fieldAt 25 23 (pathStateNo (pathRec s .p2 .a).state), fieldAt 28 26 (pathStateNo (pathRec s .p2 .b).state)] := rfl
  rw [hfields, priorityForm_bits]
  refine ofNat_eq_of_placed ?_
  simp only [placed_append, placed_zero, fieldAt_eq, path, entry, pathRec, sum_field_cons, sum_field_nil,
    BitVec.ofNat_toNat, BitVec.setWidth_eq, Nat.add_assoc, -Nat.reduceAdd]

theorem monitorWord_eq (k : Monitor) :
    monitorWord k = BitVec.ofNat 2 (pathCode k.ref) ++ BitVec.ofNat 4 k.run ++ BitVec.ofNat 2 (clockStateNo k.state)
      ++ BitVec.ofNat 22 k.last := by
  refine ofNat_eq_of_placed ?_
  simp only [placed_append, fieldAt_eq, sum_field_cons, sum_field_nil, Nat.add_zero, -Nat.reduceAdd]

theorem mergeWords_eq (m : Merge) : mergeWords m = [m.lates.setWidth 14 ++ m.slips, m.resyncs.setWidth 14 ++ m.dups] := by
  refine congrArg₂ List.cons (ofNat_eq_of_placed ?_) (congrArg₂ List.cons (ofNat_eq_of_placed ?_) rfl)
  all_goals simp only [placed_append, fieldAt_eq, sum_field_cons, sum_field_nil, BitVec.ofNat_toNat, BitVec.setWidth_eq,
    Nat.add_zero, -Nat.reduceAdd]

set_option Elab.async false in
/-- A field of a word, as a number. -/
theorem extract_toNat {w : Nat} (v : BitVec w) (lo len : Nat) : (v.extractLsb' lo len).toNat
    = v.toNat / 2 ^ lo % 2 ^ len := by
  rw [BitVec.extractLsb'_toNat, Nat.shiftRight_eq_div_pow]

set_option Elab.async false in
theorem clockWord11_eq (s : State) :
    let upper (q : Port) : BitVec 6 :=
      let g := s.merges.get q
      BitVec.ofNat 2 (pathCode g.lastPath) ++ g.resyncs.extractLsb' 14 2 ++ g.lates.extractLsb' 14 2
    clockWord11 s = 0#12 ++ upper .p2 ++ upper .p1 ++ upper .p0 := by
  intro upper
  have hbits (v : BitVec 16) : bitsAt 15 14 v.toNat = (v.extractLsb' 14 2).toNat := (extract_toNat v 14 2).symm
  refine ofNat_eq_of_placed ?_
  simp only [upper, placed_append, placed_zero, ports, List.flatMap_cons, List.flatMap_nil, List.cons_append,
    List.nil_append, portNo, hbits, fieldAt_eq, sum_field_cons, sum_field_nil, BitVec.ofNat_toNat, BitVec.setWidth_eq,
    Nat.add_assoc, -Nat.reduceAdd]

/-- The 11 words of READ_CLOCK. -/
theorem clockSnapshot_eq (s : State) :
    clockSnapshot s = [clockWord1 s, monitorWord (s.clock.monitors.get .p0), monitorWord (s.clock.monitors.get .p1),
        monitorWord (s.clock.monitors.get .p2)]
      ++ mergeWords (s.merges.get .p0) ++ mergeWords (s.merges.get .p1) ++ mergeWords (s.merges.get .p2)
      ++ [clockWord11 s] := by
  simp only [clockSnapshot, ports, List.map_cons, List.map_nil, List.flatMap_cons, List.flatMap_nil, List.append_nil,
    List.append_assoc, List.cons_append, List.nil_append]

/-! ## READ_SETTINGS (R137) -/

/-- The stored form of an item by its index, 0 where there is none, in 15 bits. -/
def itemForm (st : Settings) (n : Nat) : BitVec 15 := ((items[n]?.map (storedForm st)).getD 0).setWidth 15

theorem settingsWord_eq (lower upper : BitVec 16) :
    payload [fieldAt 14 0 lower.toNat, fieldAt 29 15 upper.toNat] = upper.setWidth 15 ++ lower.setWidth 15 := by
  refine ofNat_eq_of_placed ?_
  simp only [placed_append, fieldAt_eq, sum_field_cons, sum_field_nil, BitVec.ofNat_toNat, Nat.add_zero, -Nat.reduceAdd]

theorem answerReadSettings_eq {p : Port} {m : Msg} (s : State) (h : refuseLength 0 m = none) :
    answerReadSettings p m s = ⟨.done, ((List.range 14).map fun w =>
      itemForm s.settings (2 * w + 1) ++ itemForm s.settings (2 * w)) ++ [generationBits s.journal.gen], s⟩ := by
  refine (judged_executed ((firstFailing_length 0 m).trans h)).trans ?_
  have hform (n : Nat) : (match itemOf n with | some i => (storedForm s.settings i).toNat | none => 0)
      = ((items[n]?.map (storedForm s.settings)).getD 0).toNat := by
    rw [itemOf]
    cases items[n]? <;> rfl
  rw [generationWord_eq]
  refine congrArg (fun body => Answer.mk .done (body ++ [generationBits s.journal.gen]) s)
      (List.map_congr_left fun w _ => ?_)
  exact (congrArg₂ (fun a b => payload [fieldAt 14 0 a, fieldAt 29 15 b]) (hform _) (hform _)).trans (settingsWord_eq _ _)

/-- Settles O46. -/
theorem readClockAndReadSettingsAnswerTheStateAsItStands :
    Obligations.ReadClockAndReadSettingsAnswerTheStateAsItStands := by
  intro p m s hr h path entry word1 monitor counts upper item
  constructor
  · have hbody : clockSnapshot (heard p s) = [word1, monitor .p0, monitor .p1, monitor .p2] ++ counts .p0 ++ counts .p1
        ++ counts .p2 ++ [0#12 ++ upper .p2 ++ upper .p1 ++ upper .p0] := by
      rw [clockSnapshot_eq, clockWord1_eq, clockWord11_eq]
      simp only [monitorWord_eq, mergeWords_eq, heard_fields]
      rfl
    have hanswer : answerReadClock p m (heard p s) = ⟨.done, _, heard p s⟩ :=
      (judged_executed ((firstFailing_length 0 m).trans h)).trans
        (congrArg (fun body => Answer.mk .done body (heard p s)) hbody)
    obtain ⟨he, hanswered, hfaults⟩ := exec_read (c := .readClock p m) hr (by rfl) hanswer
    exact ⟨_, he, hfaults, hanswered⟩
  · have hitem (n : Nat) : itemForm s.settings n = item n := by
      simp only [itemForm, item]
      cases items[n]? <;> rfl
    have hanswer : answerReadSettings p m (heard p s) = ⟨.done, ((List.range 14).map fun w =>
        item (2 * w + 1) ++ item (2 * w)) ++ [generationBits s.journal.gen], heard p s⟩ := by
      rw [answerReadSettings_eq _ h]
      simp only [heard_fields, hitem]
    obtain ⟨he, hanswered, hfaults⟩ := exec_read (c := .readSettings p m) hr (by rfl) hanswer
    exact ⟨_, he, hfaults, hanswered⟩

/-! ## READ_CHANGES (R130) -/

/-- How many generations a desk lacks. -/
theorem generationsBehind_eq (m : Msg) (cur : BitVec 32) :
    (cur - namedGeneration m).toNat = (cur.toNat + 4294967296 - generationNamed m) % 4294967296 := by
  have := generationNamed_lt m
  rw [BitVec.toNat_sub, namedGeneration_toNat]
  congr 1; omega

theorem summaryWord_eq (gen : BitVec 32) (more : Bool) (n : Nat) :
    payload [fieldAt 2 0 n, flagAt 3 more, fieldAt 19 4 (gen.toNat % 65536)]
      = 0#10 ++ gen.setWidth 16 ++ BitVec.ofBool more ++ BitVec.ofNat 3 n := by
  refine ofNat_eq_of_placed ?_
  simp only [placed_append, placed_zero, fieldAt_low (hi := 19) (lo := 4) _ rfl, fieldAt_eq, flagAt_eq, sum_field_cons,
    sum_field_nil, BitVec.ofNat_toNat, -Nat.reduceAdd]

/-- The two words of a whole generation. -/
theorem wholeGeneration_eq (gen : BitVec 32) :
    [payload [fieldAt 15 0 (bitsAt 15 0 gen.toNat)], payload [fieldAt 15 0 (bitsAt 31 16 gen.toNat)]]
      = [0#14 ++ gen.setWidth 16, 0#14 ++ gen.extractLsb' 16 16] := by
  have hlow : bitsAt 15 0 gen.toNat = (gen.setWidth 16).toNat := by
    rw [BitVec.toNat_setWidth, bitsAt, Nat.pow_zero, Nat.div_one]
  have hhigh : bitsAt 31 16 gen.toNat = (gen.extractLsb' 16 16).toNat := (extract_toNat gen 16 16).symm
  rw [hlow, hhigh]
  refine congrArg₂ List.cons (ofNat_eq_of_placed ?_) (congrArg₂ List.cons (ofNat_eq_of_placed ?_) rfl)
  all_goals simp only [placed_append, placed_zero, fieldAt_eq, sum_field_cons, sum_field_nil, BitVec.ofNat_toNat,
    BitVec.setWidth_eq, -Nat.reduceAdd]

section
variable {p : Port} {m : Msg} {s : State} (h : refuseChanges m s = none)
include h

/-- A desk at most the journal's length behind. -/
theorem answerReadChanges_of_held (hheld : (s.journal.gen - namedGeneration m).toNat ≤ s.journal.entries.length) :
    answerReadChanges p m s = ⟨.done,
      (entriesAfter (s.journal.gen - namedGeneration m).toNat s.journal.entries).flatMap entryWords
        ++ [payload [fieldAt 2 0 (entriesAfter (s.journal.gen - namedGeneration m).toNat s.journal.entries).length,
              flagAt 3 (decide (7 < (s.journal.gen - namedGeneration m).toNat)),
              fieldAt 19 4 (s.journal.gen.toNat % 65536)]], s⟩ :=
  (judged_executed ((firstFailing_changes m s).trans h)).trans (if_pos hheld)

/-- A desk that lacks more than the journal holds. -/
theorem answerReadChanges_of_lacking (hlacks : s.journal.entries.length < (s.journal.gen - namedGeneration m).toNat) :
    answerReadChanges p m s = ⟨.tooOld, [payload [fieldAt 15 0 (bitsAt 15 0 s.journal.gen.toNat)],
      payload [fieldAt 15 0 (bitsAt 31 16 s.journal.gen.toNat)]], s⟩ :=
  (judged_executed ((firstFailing_changes m s).trans h)).trans (if_neg (Nat.not_le.mpr hlacks))

end

/-- Settles O35. -/
theorem readChangesAnswersWhatTheJournalHolds : Obligations.ReadChangesAnswersWhatTheJournalHolds := by
  intro p m s hr h cur behind n given words summary
  have hbehind : (cur - namedGeneration m).toNat = behind := generationsBehind_eq m cur
  have hwords : entryWords = words := funext entryWords_eq
  by_cases hheld : behind ≤ n
  · have hanswer : answerReadChanges p m (heard p s) = ⟨.done, given.flatMap words ++ [summary], heard p s⟩ := by
      rw [answerReadChanges_of_held (s := heard p s) h (hbehind.trans_le hheld), hwords, summaryWord_eq]
      simp only [heard_fields, hbehind, entriesAfter, cur, given, n, summary]
    obtain ⟨he, hanswered, hfaults⟩ := exec_read (c := .readChanges p m) hr (by rfl) hanswer
    exact ⟨_, he, fun _ => hanswered, fun hlacks => absurd hheld (Nat.not_le.mpr hlacks), hfaults⟩
  · have hanswer : answerReadChanges p m (heard p s)
        = ⟨.tooOld, [0#14 ++ cur.setWidth 16, 0#14 ++ cur.extractLsb' 16 16], heard p s⟩ := by
      rw [answerReadChanges_of_lacking (s := heard p s) h ((Nat.not_le.mp hheld).trans_eq hbehind.symm), wholeGeneration_eq]
      rfl
    obtain ⟨he, hanswered, hfaults⟩ := exec_read (c := .readChanges p m) hr (by rfl) hanswer
    exact ⟨_, he, fun hholds => absurd hholds hheld, fun _ => hanswered, hfaults⟩

end Sys2Proof.Safety
end

section
/-! PROOFS. READ_METERS, CLEAR_FAULTS, TALK and ACK_CALL. -/
namespace Sys2Proof.Safety

open Sys2Proof.Machine

/-! ## READ_METERS (R90) -/

set_option Elab.async false in
theorem bankWhere_true (b : BankId) : bankWhere b (fun _ => true) = bankChans b := by
  rw [bankWhere, bankChans, chanRange]
  refine List.filter_congr fun c _ => ?_
  rw [Bool.eq_iff_iff]
  simp only [Bool.and_true, beq_iff_eq, Bool.and_eq_true, decide_eq_true_eq]
  omega

theorem setMeter_get (p c m s) (q : Port) (d : Chan) :
    (((setMeter p c m s).meters.get q)[d]'d.2) = if q = p ∧ d = c then m else ((s.meters.get q)[d]'d.2) := by
  have h : (setMeter p c m s).meters = s.meters.set p (vset (s.meters.get p) c m) := rfl
  rw [h, PerPort.get_set]
  by_cases hq : q = p
  · subst hq
    simp only [if_true, true_and, vset_get]
  · simp [hq]

/-- A port's meter records after some of them have been replaced by one record. -/
theorem foldl_setMeter_get (p : Port) (v : Meter) {cs : List Chan} (hnodup : cs.Nodup) (s : State) (q : Port) (d : Chan) :
    (((cs.foldl (fun s c => setMeter p c v s) s).meters.get q)[d]'d.2) = if q = p
        ∧ d ∈ cs then v else ((s.meters.get q)[d]'d.2) := by
  by_cases hq : q = p
  · subst hq
    have h := foldl_read (f := fun s c => setMeter q c v s) (fun s d => ((s.meters.get q)[d]'d.2)) (fun _ _ => v)
      (fun s c => by rw [setMeter_get, if_pos ⟨rfl, rfl⟩]) (fun s c d hd => by rw [setMeter_get, if_neg fun h => hd h.2])
      (fun _ _ _ _ => rfl) hnodup s d
    simpa only [true_and] using h
  · rw [if_neg fun h => hq h.1]
    clear hnodup
    induction cs generalizing s with
    | nil => rfl
    | cons c cs ih => rw [List.foldl_cons, ih, setMeter_get, if_neg fun h => hq h.1]

/-- Two tables of a port's records that agree in every record. -/
theorem vector_ext_fin {α : Type} {n : Nat} {v w : Vector α n} (h : ∀ i : Fin n, (v[i]'i.2) = (w[i]'i.2)) : v = w :=
  Vector.ext fun i hi => h ⟨i, hi⟩

/-- Settles O28. -/
theorem readMetersAnswersAndClearsTheSendersRecords : Obligations.ReadMetersAnswersAndClearsTheSendersRecords := by
  intro p m b s hr hlength harg
  let read := (bankChans b).foldl (fun s c => setMeter p c { peak := 0, clip := false, sendClip := false } s) (heard p s)
  have hfirst : firstFailing [(m.body.length != 0, .badLength), (5 < m.arg.toNat, .badIndex)] = none := by
    rw [firstFailing_subject, if_neg (by simp [hlength]), if_neg (by omega)]
  have hanswer : answerReadMeters p m (heard p s)
      = ⟨.done, (bankWhere b fun _ => true).map (meterBits s p), read⟩ := by
    refine (judged_executed hfirst).trans ?_
    rw [bankArg_eq harg, bankWhere_true, funext (meterWord_eq (heard p s) p)]
    rfl
  have hframe : SameExcept [.meters] (heard p s) read := .foldl (fun _ _ => setMeter_frame _ _ _ _) _ _
  have hget := foldl_setMeter_get p { peak := 0, clip := false, sendClip := false }
    (cs := bankChans b) (chanRange_nodup _ _) (heard p s)
  obtain ⟨he, hanswered⟩ := exec_answered (c := .readMeters p m) hr (by rfl) hanswer hframe
  refine ⟨_, he, hanswered, fun c => ?_, fun q hq => vector_ext_fin fun c => ?_, hframe .faults (by decide)⟩
  · have h := hget p c
    simp only [true_and, mem_bankChans] at h
    exact h
  · exact (hget q c).trans (if_neg fun h => hq h.1)

/-! ## CLEAR_FAULTS (R182) -/

theorem conditionKinds_bit : ∀ i : Fin 12, conditionKinds.getLsbD i.val = decide (i.val < 7) := by decide

theorem clearedCopy_bit (s : State) (p : Port) (mask : BitVec 12) (k : FaultKind) :
    (clearedCopy s p mask).getLsbD (faultNo k).val =
      ((s.faults.sticky.get p).getLsbD (faultNo k).val &&
        !(mask.getLsbD (faultNo k).val &&
          !(decide ((faultNo k).val < 7) && (s.faults.active.get p).getLsbD (faultNo k).val))) := by
  simp only [clearedCopy, BitVec.getLsbD_and, BitVec.getLsbD_not, conditionKinds_bit, (faultNo k).isLt, decide_true,
    Bool.true_and]

theorem maskWord_eq (v : BitVec 12) : payload [fieldAt 11 0 v.toNat] = 0#18 ++ v := by
  refine ofNat_eq_of_placed ?_
  simp only [placed_append, placed_zero, fieldAt_eq, sum_field_cons, sum_field_nil, BitVec.ofNat_toNat, BitVec.setWidth_eq,
    -Nat.reduceAdd]

/-- Settles O49. -/
theorem clearFaultsKeepsActiveConditions : Obligations.ClearFaultsKeepsActiveConditions := by
  intro p m s hr h mask before
  let copy := clearedCopy (heard p s) p mask
  let cleared := (heard p s).withFaults { before with sticky := before.sticky.set p copy }
  have hmask : BitVec.ofNat 12 (bitsAt 11 0 (bodyWord m 0)) = mask := by
    apply BitVec.eq_of_toNat_eq
    simp [mask, bitsAt, bodyWord_eq, word]
  have hanswer : answerClearFaults p m (heard p s) = ⟨.done, [0#18 ++ copy], cleared⟩ := by
    refine (judged_executed ((firstFailing_length 1 m).trans h)).trans ?_
    rw [hmask, maskWord_eq]
  obtain ⟨he, hanswered⟩ := exec_answered (changed := [.faults]) (c := .clearFaults p m) hr (by rfl) hanswer
    (withFaults_frame _ _)
  have hcopy (r : Reply) : (replied p r cleared).faults.sticky.get p = copy := PerPort.get_set_self _ _ _
  refine ⟨_, he, ?_, fun k => ?_, ?_⟩
  · obtain ⟨hheard, hreplied, hsame⟩ := hanswered
    exact ⟨hheard, by rw [hcopy]; exact hreplied, hsame.mono (by simp)⟩
  · exact (congrArg (fun v : BitVec 12 => v.getLsbD (faultNo k).val) (hcopy _)).trans (clearedCopy_bit _ _ _ _)
  · exact congrArg (fun v => { before with sticky := before.sticky.set p v }) (hcopy _).symm

/-! ## TALK and ACK_CALL (R171, R172, R175) -/

theorem talkWord_eq (v : BitVec 16) (valid : Bool) :
    payload [fieldAt 15 0 v.toNat, flagAt 16 valid] = 0#13 ++ BitVec.ofBool valid ++ v := by
  refine ofNat_eq_of_placed ?_
  simp only [placed_append, placed_zero, fieldAt_eq, flagAt_eq, sum_field_cons, sum_field_nil, BitVec.ofNat_toNat,
    BitVec.setWidth_eq, -Nat.reduceAdd]

theorem callsWord_eq (s : State) (p : Port) :
    let entry (j : KeyId) : BitVec 2 := BitVec.ofBool ((s.calls.get p)[j]'j.2).acked ++ BitVec.ofBool
        ((s.calls.get p)[j]'j.2).pending
    callsWord s p = 0#22 ++ entry 3 ++ entry 2 ++ entry 1 ++ entry 0 := by
  intro entry
  have hfields : callsWord s p = payload [flagAt 0 ((s.calls.get p)[(0 : KeyId)]'(0 : KeyId).2).pending,
      flagAt 1 ((s.calls.get p)[(0 : KeyId)]'(0 : KeyId).2).acked,
          flagAt 2 ((s.calls.get p)[(1 : KeyId)]'(1 : KeyId).2).pending,
      flagAt 3 ((s.calls.get p)[(1 : KeyId)]'(1 : KeyId).2).acked,
          flagAt 4 ((s.calls.get p)[(2 : KeyId)]'(2 : KeyId).2).pending,
      flagAt 5 ((s.calls.get p)[(2 : KeyId)]'(2 : KeyId).2).acked,
          flagAt 6 ((s.calls.get p)[(3 : KeyId)]'(3 : KeyId).2).pending,
      flagAt 7 ((s.calls.get p)[(3 : KeyId)]'(3 : KeyId).2).acked] := rfl
  rw [hfields]
  refine ofNat_eq_of_placed ?_
  simp only [placed_append, placed_zero, entry, flagAt_eq, sum_field_cons, sum_field_nil, Nat.add_assoc, -Nat.reduceAdd]

/-- The model's test of an expiry and the claims' (R55, R61). -/
theorem expiresNow_iff {s : State} {p : Port} : expiresNow s p = true ↔ TimesOut p s := by
  simp only [expiresNow, Bool.and_eq_true, decide_eq_true_eq]
  rfl

set_option Elab.async false in
theorem expiryFalls_eq (s : State) (p : Port) :
    expiryFalls s p = decide (.presence p ∉ s.latch.taken ∧ TimesOut p s) := by
  rw [Bool.eq_iff_iff, decide_eq_true_eq, expiryFalls, Bool.and_eq_true, expiresNow_iff]
  simp [fresh]

/-- A call after its acknowledgement (R171). -/
def acknowledged (atExpiry : Bool) (state : KeyState) (e : Call) : Call :=
  if e.pending = false then e
  else if state = .pressed then { pending := true, acked := true, ending := e.ending || atExpiry }
  else { pending := false, acked := false }

theorem ackCall_eq (atExpiry : Bool) (p : Port) (k : KeyId) (s : State) :
    ackCall atExpiry p k s = setCall p k (acknowledged atExpiry (s.keys[k]'k.2).state ((s.calls.get p)[k]'k.2)) s := by
  have hself : setCall p k ((s.calls.get p)[k]'k.2) s = s := by
    have hset : s.calls.set p (s.calls.get p) = s.calls := by cases p <;> rfl
    rw [setCall, vset_self, hset]
    rfl
  unfold ackCall acknowledged
  cases hpending : ((s.calls.get p)[k]'k.2).pending
  · simp only [hpending, Bool.false_eq_true, if_false, if_true, hself]
  · simp only [hpending, if_true, beq_iff_eq, Bool.true_eq_false, if_false]
    split
    · next hpressed =>
      refine congrArg (fun c => setCall p k c s) ?_
      rw [← hpending]
    · rfl

/-- An executed message whose handler reads the state before it (R174). -/
theorem answered_of_delivers {c : Instr} {p : Port} {kind : BitVec 6} {m : Msg} {handler : Port → Msg → State → Answer}
    {s u : State} {code : Code} {body : List Payload} {changed : List Block} (h : Delivers c s p kind m handler)
    (hr : Ready p s) (hanswer : handler p m (heard p s) = ⟨code, body, u⟩) (hframe : SameExcept changed (heard p s) u)
    (hpaths : .paths ∉ changed := by decide) (hlanes : .lanes ∉ changed := by decide)
    (hpresence : .presence ∉ changed := by decide) :
    exec c s = .next (replied p ⟨kind, m.tag, code, body⟩ u)
      ∧ Answered p ⟨kind, m.tag, code, body⟩ changed s (replied p ⟨kind, m.tag, code, body⟩ u) := by
  have honline : online u p = true := (online_of_paths (hframe .paths hpaths) p).trans hr.2.1
  refine ⟨?_, answered_replied hframe hlanes hpresence⟩
  rw [h.exec hr.1 hr.2.1, deliver_of_room hr.2.2, hanswer, enqueue_of_online honline]

/-- Settles O47. -/
theorem talkAndAckCallActOnTheSendersOwnTables : Obligations.TalkAndAckCallActOnTheSendersOwnTables := by
  intro p m s hr
  refine ⟨fun h => ?_, fun k hlength harg => ?_⟩
  · intro mask
    have hanswer : answerTalk p m (heard p s)
        = ⟨.done, [0#13 ++ BitVec.ofBool (s.merges.get p).talkValid ++ mask],
           (heard p s).withTalkMask (s.talkMask.set p mask)⟩ := by
      refine (judged_executed ((firstFailing_length 1 m).trans h)).trans ?_
      rw [talkWord_eq, value16_eq]
      rfl
    obtain ⟨he, hanswered⟩ := exec_answered (changed := [.talkMask]) (c := .talk p m) hr (by rfl) hanswer
      (withTalkMask_frame _ _)
    exact ⟨_, he, hanswered, rfl, rfl⟩
  · intro e e'
    have hfirst : firstFailing [(m.body.length != 0, .badLength), (3 < m.arg.toNat, .badIndex)] = none := by
      rw [firstFailing_subject, if_neg (by simp [hlength]), if_neg (by omega)]
    have hcall : acknowledged (expiryFalls s p) ((heard p s).keys[k]'k.2).state (((heard p s).calls.get p)[k]'k.2) = e' := by
      rw [expiryFalls_eq]
      rfl
    let after := setCall p k e' (heard p s)
    let entry (j : KeyId) : BitVec 2 :=
      BitVec.ofBool ((after.calls.get p)[j]'j.2).acked ++ BitVec.ofBool ((after.calls.get p)[j]'j.2).pending
    have hanswer : answerAckCall s p m (heard p s)
        = ⟨.done, [0#22 ++ entry 3 ++ entry 2 ++ entry 1 ++ entry 0], after⟩ := by
      refine (judged_executed hfirst).trans ?_
      rw [keyArg_eq harg, ackCall_eq, hcall, callsWord_eq]
    have hframe : SameExcept [.calls] (heard p s) after := setCall_frame _ _ _ _
    have hdelivers : Delivers (.ackCall p m) s p 24 m (answerAckCall s) := ⟨_, rfl, rfl⟩
    obtain ⟨he, hanswered⟩ := answered_of_delivers hdelivers hr hanswer hframe
    refine ⟨_, he, rfl, ?_, hframe .faults (by decide)⟩
    simp only [replied_fields]
    exact hanswered

end Sys2Proof.Safety
end

section
/-! PROOFS. WRITE_SETTING: plain items, CLOCK_PRIORITY, KEY_CONFIG and ALARM_MAP (R134, R135). -/
namespace Sys2Proof.Safety

open Sys2Proof.Machine

/-- An answer's blocks may be listed more widely. -/
theorem Answered.mono {p : Port} {r : Reply} {l l' : List Block} {s t : State} (h : Answered p r l s t)
    (hl : ∀ b ∈ l, b = .presence ∨ b = .lanes ∨ b = .faults ∨ b ∈ l') : Answered p r l' s t := by
  obtain ⟨hheard, hreplied, hsame⟩ := h
  refine ⟨hheard, hreplied, hsame.mono fun b hb => ?_⟩
  simp only [List.mem_cons] at hb ⊢
  rcases hb with hb | hb | hb | hb
  · exact .inl hb
  · exact .inr (.inl hb)
  · exact .inr (.inr (.inl hb))
  · exact hl b hb

/-! ## An accepted write -/

/-- What an accepted write leaves before its reply (R135). -/
def written (p : Port) (i : Item) (v : Nat) (s : State) : State := applyItem i s.settings (storeItem p i v (heard p s))

theorem settingReply_eq (n : Nat) (stored : BitVec 16) {s : State} {j : Journal} (h : s.journal.gen = j.gen + 1) :
    [payload [fieldAt 15 0 stored.toNat, fieldAt 20 16 n], payload [fieldAt 15 0 (genLow s)]] = settingReply n stored j := by
  have hfirst : payload [fieldAt 15 0 stored.toNat, fieldAt 20 16 n] = 0#9 ++ BitVec.ofNat 5 n ++ stored := by
    refine ofNat_eq_of_placed ?_
    simp only [placed_append, placed_zero, fieldAt_eq, sum_field_cons, sum_field_nil, BitVec.ofNat_toNat,
      BitVec.setWidth_eq, -Nat.reduceAdd]
  rw [hfirst, generationWord_eq, h]
  rfl

section
variable {c : Instr} {p : Port} {i : Item} {m : SettingMsg} {s : State} {code : Code} {stored : BitVec 16} {v : Nat}
  (hr : Ready p s) (hi : refuseItem i m = none)
  (hexec : exec c s = whileRunning s (fromDesk p (deliverWrite p i m))) (hv : word ⟨m.tag, 0, m.body⟩ 0 % 65536 = v)
  (hcode : (if itemClamped i v then .clamped else .done) = code) (hstored : storedForm (putItem i v s.settings) i = stored)
include hr hi hexec hv hcode hstored

/-- A write that passes its tests stores the item, makes its entry, hands the value on and is answered. -/
theorem exec_write : exec c s
    = .next (enqueue p 18 m.tag ⟨code, settingReply (itemNo i) stored s.journal, written p i v s⟩) := by
  have hvalue : (value16 (itemMsg i m)).toNat = v := (value16_toNat _).trans hv
  have hanswer : answerWriteSetting p (itemMsg i m) (heard p s)
      = ⟨code, settingReply (itemNo i) stored s.journal, written p i v s⟩ := by
    rw [answerWriteSetting_item, hi, answerUnless_none, hvalue, ← hcode, ← hstored]
    exact congrArg (fun body => Answer.mk _ body _)
      (settingReply_eq (s := storeItem p i v (heard p s)) (itemNo i) (storedForm (putItem i v s.settings) i) rfl)
  rw [hexec]
  exact (message_of_ready hr).trans (by rw [hanswer]; rfl)

/-- A write that leaves its port ONLINE. -/
theorem exec_write_online (honline : online (written p i v s) p = true) :
    exec c s = .next (replied p ⟨18, m.tag, code, settingReply (itemNo i) stored s.journal⟩ (written p i v s)) := by
  rw [exec_write hr hi hexec hv hcode hstored, enqueue_of_online honline]

/-- A write whose item is handed to blocks other than the paths, presence and the lanes. -/
theorem exec_write_answered {changed : List Block}
    (hframe : SameExcept changed (storeItem p i v (heard p s)) (written p i v s))
    (hpaths : .paths ∉ changed := by decide) (hlanes : .lanes ∉ changed := by decide)
    (hpresence : .presence ∉ changed := by decide) :
    let r : Reply := ⟨18, m.tag, code, settingReply (itemNo i) stored s.journal⟩
    exec c s = .next (replied p r (written p i v s))
      ∧ Answered p r (.settings :: .journal :: changed) s (replied p r (written p i v s)) := by
  have hall : SameExcept (.settings :: .journal :: changed) (heard p s) (written p i v s) :=
    ((storeItem_frame p i v (heard p s)).mono (by simp)).trans (hframe.mono (by simp +contextual))
  have honline : online (written p i v s) p = true :=
    (online_of_paths (hall .paths (by simpa using hpaths)) p).trans hr.2.1
  exact ⟨exec_write_online hr hi hexec hv hcode hstored honline,
    answered_replied hall (by simpa using hlanes) (by simpa using hpresence)⟩

end

/-- A write of an item without a range is never clamped. -/
theorem code_of_unranged {i : Item} (h : ∀ n, clampItem i n = n) (v : Nat) :
    (if itemClamped i v then .clamped else .done : Code) = .done := by
  rw [itemClamped, h, bne_self_eq_false]
  rfl

/-- The settings and the journal that an item's storing leaves. -/
theorem storeItem_settings (p : Port) (i : Item) (v : Nat) (s : State) :
    (storeItem p i v s).settings = putItem i v s.settings := rfl

theorem storeItem_journal (p : Port) (i : Item) (v : Nat) (s : State) : (storeItem p i v s).journal
    = journalWith [⟨.setting, itemNo i, some p, storedForm (putItem i v s.settings) i⟩] s.journal :=
  appendEntry_journal _ _ _ _ _

/-! ## CLOCK_PRIORITY (R31, R32) -/

set_option Elab.async false in
theorem storedPriority_eq (order : List Port) :
    let entry (i : Nat) : BitVec 2 := BitVec.ofNat 2 ((order[i]?.map portNo).getD 0)
    BitVec.ofNat 16 (priorityForm order) = 0#7 ++ entry 2 ++ entry 1 ++ entry 0 ++ BitVec.ofNat 3 order.length := by
  intro entry
  refine ofNat_eq_of_placed ?_
  simp only [priorityForm_eq, placed_append, placed_zero, entry, fieldAt_eq, Nat.add_zero, Nat.add_assoc, -Nat.reduceAdd]

theorem filterMap_portOf (order : List Port) : (order.map portNo).filterMap portOf = order := by
  rw [List.filterMap_map]
  have h : portOf ∘ portNo = some := funext portOf_portNo
  rw [h, List.filterMap_some]

/-- The first GOOD port is read from the monitors alone. -/
theorem firstGood_of_monitors {order : List Port} {k k' : Clock} (h : k'.monitors = k.monitors) :
    firstGood order k' = firstGood order k := by
  simp only [firstGood, h]

/-- Settles O37. -/
theorem clockPriorityWriteReselectsTheSource : Obligations.ClockPriorityWriteReselectsTheSource := by
  intro p m order s hr hi v entry stored horder
  have hput : putItem .clockPriority v s.settings = { s.settings with clockPriority := order } := by
    simp only [putItem, priorityCodes_eq, ← horder, filterMap_portOf]
  have hstored : storedForm (putItem .clockPriority v s.settings) .clockPriority = stored := by
    rw [hput]
    exact storedPriority_eq order
  obtain ⟨u, hu⟩ : ∃ u, u = storeItem p .clockPriority v (heard p s) := ⟨_, rfl⟩
  have hwritten : written p .clockPriority v s = settle (reselect u) := by rw [hu]; rfl
  have hstored_u : SameExcept [.settings, .journal] (heard p s) u := hu ▸ storeItem_frame p .clockPriority v (heard p s)
  have hclock_u : u.clock = s.clock := hstored_u .clock (by decide)
  have hsettings_u : u.settings = { s.settings with clockPriority := order } := by rw [hu, storeItem_settings]; exact hput
  have hjournal_u : u.journal = journalWith [⟨.setting, 0, some p, stored⟩] s.journal := by
    rw [hu, ← hstored]; exact storeItem_journal p .clockPriority v (heard p s)
  have hframe : SameExcept [.clock, .faults] u (settle (reselect u)) := (reselect_frame u).seq (settle_frame _)
  obtain ⟨he, hanswered⟩ := exec_write_answered (c := .writeClockPriority p m) hr hi rfl rfl
    (code_of_unranged (fun _ => rfl) v) hstored (changed := [.clock, .faults]) (by rw [← hu, hwritten]; exact hframe)
  rw [hwritten] at he hanswered
  have hclock : (settle (reselect u)).clock = (reselect u).clock := settle_clock _
  have hreply (r : Reply) : SameExcept [.lanes] (settle (reselect u)) (replied p r (settle (reselect u))) :=
      replied_frame p r _
  refine ⟨_, he, hanswered.mono (l' := [.settings, .journal, .clock]) (by simp),
    (hreply _ .settings (by decide)).trans ((hframe .settings (by decide)).trans hsettings_u),
    (hreply _ .journal (by decide)).trans ((hframe .journal (by decide)).trans hjournal_u), ?_, ?_, ?_,
    onlyConditionsReported_replied ((reselect_frame _ .faults (by decide)).trans (hstored_u .faults (by decide)))⟩
  all_goals rw [(hreply _ .clock (by decide)).trans hclock]
  · rw [reselect_source, firstGood_of_monitors (reselect_monitors u), hclock_u, hsettings_u]
  · exact (reselect_monitors u).trans (congrArg Clock.monitors hclock_u)
  · rw [← hclock_u]
    exact reselect_switched u

end Sys2Proof.Safety
end

section
/-! PROOFS. WRITE_SETTING: the plain items, KEY_CONFIG and ALARM_MAP (R61, R112, R155, R165, R169, R187). -/
namespace Sys2Proof.Safety

open Sys2Proof.Machine

/-! ## The plain items -/

/-- A write of an item that no block but presence is handed. -/
theorem plain_write {c : Instr} {p : Port} {i : Item} {m : SettingMsg} {s : State} {code : Code} {stored : BitVec 16}
    {v : Nat} {after : Settings} (hr : Ready p s) (hi : refuseItem i m = none)
    (hexec : exec c s = whileRunning s (fromDesk p (deliverWrite p i m))) (hv : word ⟨m.tag, 0, m.body⟩ 0 % 65536 = v)
    (hcode : (if itemClamped i v then .clamped else .done) = code) (hput : putItem i v s.settings = after)
    (hstored : storedForm after i = stored)
    (hframe : SameExcept [.presence] (storeItem p i v (heard p s)) (written p i v s)) :
    ∃ t, exec c s = .next t
      ∧ Replied p ⟨18, m.tag, code, settingReply (itemNo i) stored s.journal⟩ s t
      ∧ SameExcept [.presence, .lanes, .faults, .settings, .journal] s t
      ∧ t.presence = (written p i v s).presence ∧ t.settings = after
      ∧ t.journal = journalWith [⟨.setting, itemNo i, some p, stored⟩] s.journal ∧ FaultsAsHeard p s t := by
  obtain rfl := hput
  have hall : SameExcept [.settings, .journal, .presence] (heard p s) (written p i v s) :=
    ((storeItem_frame p i v (heard p s)).mono (by simp)).trans (hframe.mono (by simp))
  have honline : online (written p i v s) p = true := (online_of_paths (hall .paths (by decide)) p).trans hr.2.1
  refine ⟨_, exec_write_online hr hi hexec hv hcode hstored honline, ?_, ?_, rfl, hframe .settings (by decide), ?_,
    hall .faults (by decide)⟩
  · rw [Replied, replied_lanes, hall .lanes (by decide)]
    rfl
  · exact ((heard_frame p s).mono (by simp)).trans ((hall.mono (by simp)).trans ((replied_frame _ _ _).mono (by simp)))
  · rw [← hstored]
    exact (hframe .journal (by decide)).trans (storeItem_journal p i v (heard p s))

/-- The written value of an item, as a number of 16 bits. -/
theorem writtenValue_toNat (m : SettingMsg) :
    word ⟨m.tag, 0, m.body⟩ 0 % 65536 = ((m.body[0]?.getD 0).setWidth 16).toNat := by
  rw [BitVec.toNat_setWidth]; rfl

theorem setWidth_two {v : BitVec 16} (h : v.toNat ≤ 3) : (v.setWidth 2).setWidth 16 = v := by
  apply BitVec.eq_of_toNat_eq
  simp only [BitVec.toNat_setWidth]
  omega

theorem bit_of_le_one {v : BitVec 16} (h : v.toNat ≤ 1) : v = 0 ∨ v = 1 := by
  have hcases : v.toNat = 0 ∨ v.toNat = 1 := by omega
  exact hcases.imp (fun h0 => BitVec.eq_of_toNat_eq h0) (fun h1 => BitVec.eq_of_toNat_eq h1)

/-- What a test of the value has let through. -/
theorem le_of_not_refused {i : Item} {m : SettingMsg} {top : Nat} (h : refuseItem i m = none)
    (htest : ∀ v, itemBadIndex i v = false ∧ itemBadValue i v = decide (top < v)) :
    ((m.body[0]?.getD 0).setWidth 16).toNat ≤ top := by
  rw [← firstFailing_item, value16_eq] at h
  simp only [firstFailing_cons, firstFailing_nil, htest, itemMsg, decide_eq_true_eq, Bool.false_eq_true, if_false] at h
  split at h
  · cases h
  · split at h
    · cases h
    · next hle => exact Nat.not_lt.mp hle

/-- The presence that a write of a port's timeout leaves (R61). -/
theorem holdTimeout_presence (q : Port) (old : BitVec 2) (s : State) :
    (holdTimeout q old s).presence =
      if (s.presence.get q).running = true ∧ .presence q ∉ s.latch.taken then
        s.presence.set q { s.presence.get q with held := some ((s.presence.get q).held.getD old) }
      else s.presence := by
  unfold holdTimeout
  simp only [fresh, Bool.and_eq_true, Bool.not_eq_true', List.contains_eq_mem, decide_eq_false_iff_not]
  split <;> rfl

/-- Settles O36. -/
theorem plainSettingWritesStoreTheirItem : Obligations.PlainSettingWritesStoreTheirItem := by
  intro p m s hr v heardAs storesWith stores level depth
  have hv := writtenValue_toNat m
  have hsigned : writtenNumber v.toNat = v.toInt := by rw [writtenNumber, signedOf, BitVec.ofNat_toNat, BitVec.setWidth_eq]
  refine ⟨fun q => ?_, fun q hi => ?_, fun hi => ?_, fun c hc hi => ?_, fun hi => ?_, fun hi => ?_⟩
  · intro r keeps hi
    have hle : v.toNat ≤ 3 := le_of_not_refused hi fun _ => ⟨rfl, rfl⟩
    have hput : putItem (.timeout q) v.toNat s.settings
        = { s.settings with timeout := s.settings.timeout.set q (v.setWidth 2) } := by
      simp only [putItem, BitVec.ofNat_toNat]
    obtain ⟨t, he, hreplied, hsame, hpresence, hsettings, hjournal, hfaults⟩ := plain_write
      (c := .writePresenceTimeout p q m) hr hi (by rfl) hv (code_of_unranged (fun _ => rfl) _) hput
      (by simp only [storedForm, PerPort.get_set_self]; exact setWidth_two hle) (holdTimeout_frame _ _ _)
    refine ⟨t, he, hreplied, hsame, ?_, hsettings, hjournal, hfaults⟩
    exact hpresence.trans (holdTimeout_presence _ _ _)
  · have hle : v.toNat ≤ 1 := le_of_not_refused hi fun _ => ⟨rfl, rfl⟩
    have hpolicy : (if v.toNat = 1 then Policy.report else .release) = if v = 0 then .release else .report := by
      rcases bit_of_le_one hle with h | h <;> (rw [h]; rfl)
    have hput : putItem (.policy q) v.toNat s.settings
        = { s.settings with policy := s.settings.policy.set q (if v = 0 then .release else .report) } := by
      simp only [putItem, hpolicy]
    refine plain_write (c := .writePresencePolicy p q m) hr hi (by rfl) hv (code_of_unranged (fun _ => rfl) _) hput ?_
      (.refl _ _)
    simp only [storedForm, PerPort.get_set_self]
    rcases bit_of_le_one hle with h | h <;> (rw [h]; rfl)
  · have hle : v.toNat ≤ 3 := le_of_not_refused hi fun _ => ⟨rfl, rfl⟩
    have hput : putItem .trip v.toNat s.settings = { s.settings with trip := v.setWidth 2 } := by
      simp only [putItem, BitVec.ofNat_toNat]
    exact plain_write (c := .writePhantomTrip p m) hr hi (by rfl) hv (code_of_unranged (fun _ => rfl) _) hput
      (setWidth_two hle) (.refl _ _)
  · have hput : putItem .talkSource v.toNat s.settings = { s.settings with talkSource := c } := by
      have hchan : (⟨v.toNat % 48, Nat.mod_lt _ (by decide)⟩ : Chan) = c := Fin.ext (by simp only [hc]; omega)
      simp only [putItem, hchan]
    refine plain_write (c := .writeTalkSource p m) hr hi (by rfl) hv (code_of_unranged (fun _ => rfl) _) hput ?_ (.refl _ _)
    simp only [storedForm]
    rw [← hc, BitVec.ofNat_toNat, BitVec.setWidth_eq]
  · have hclamp : clampItem .talkLevel (writtenNumber v.toNat) = level := by rw [hsigned]; rfl
    have hput : putItem .talkLevel v.toNat s.settings = { s.settings with talkLevel := level } := by
      simp only [putItem, hclamp]
    refine plain_write (c := .writeStageTalkLevel p m) hr hi (by rfl) hv ?_ hput (by rfl) (.refl _ _)
    rw [itemClamped, hclamp, hsigned]
    by_cases h : level = v.toInt <;> simp [h]
  · have hclamp : clampItem .duckDepth (writtenNumber v.toNat) = depth := by rw [hsigned]; rfl
    have hput : putItem .duckDepth v.toNat s.settings = { s.settings with duckDepth := depth } := by
      simp only [putItem, hclamp]
    refine plain_write (c := .writeDuckDepth p m) hr hi (by rfl) hv ?_ hput (by rfl) (.refl _ _)
    rw [itemClamped, hclamp, hsigned]
    by_cases h : depth = v.toInt <;> simp [h]

end Sys2Proof.Safety
end

section
/-! PROOFS. WRITE_SETTING: KEY_CONFIG and ALARM_MAP; the stretch timers (R165, R173, R185 to R187). -/
namespace Sys2Proof.Safety

open Sys2Proof.Machine

/-! ## KEY_CONFIG (R165, R173) -/

theorem keyConfigOf_mod (v : Nat) : keyConfigOf (v % 65536)
    = { enabled := v.testBit 0, latch := v.testBit 1, ports := .of fun q => v.testBit (2 + portNo q) } := by
  have hbit (i : Nat) (hi : i < 16) : bitAt i (v % 65536) = v.testBit i := by
    rw [bitAt, show 65536 = 2 ^ 16 from rfl, Nat.testBit_mod_two_pow]
    simp [hi]
  have hports (q : Port) : bitAt (2 + portNo q) (v % 65536) = v.testBit (2 + portNo q) := hbit _ (by cases q <;> decide)
  simp only [keyConfigOf, hbit 0 (by decide), hbit 1 (by decide), hports]

set_option Elab.async false in
/-- The stored form of a KEY_CONFIG is its five bits. -/
theorem storedKeyConfig_eq (v : Nat) :
    BitVec.ofNat 16 (flagAt 0 (v.testBit 0) + flagAt 1 (v.testBit 1)
        + (ports.map fun q => flagAt (2 + portNo q) (v.testBit (2 + portNo q))).sum)
      = 0#11 ++ BitVec.ofNat 5 v := by
  have hbits : ∀ x : BitVec 5, BitVec.ofNat 16 (flagAt 0 (x.getLsbD 0) + flagAt 1 (x.getLsbD 1)
      + (ports.map fun q => flagAt (2 + portNo q) (x.getLsbD (2 + portNo q))).sum) = 0#11 ++ x := by decide
  have hbit (i : Nat) (hi : i < 5) : (BitVec.ofNat 5 v).getLsbD i = v.testBit i := by
    rw [BitVec.getLsbD_ofNat, decide_eq_true hi, Bool.true_and]
  rw [← hbits (BitVec.ofNat 5 v), hbit 0 (by decide), hbit 1 (by decide)]
  refine congrArg (fun l : List Nat => BitVec.ofNat 16 (_ + l.sum)) (List.map_congr_left fun q _ => ?_)
  rw [hbit _ (by cases q <;> decide)]

/-- The entry that an item's storing makes. -/
theorem storeItem_heard_journal (p : Port) {i : Item} {v : Nat} {s : State} {stored : BitVec 16}
    (h : storedForm (putItem i v s.settings) i = stored) :
    (storeItem p i v (heard p s)).journal = journalWith [⟨.setting, itemNo i, some p, stored⟩] s.journal := by
  rw [← h]
  exact storeItem_journal p i v (heard p s)

/-- Settles O39. -/
theorem keyConfigWriteActsOnTheKeyAndItsCalls : Obligations.KeyConfigWriteActsOnTheKeyAndItsCalls := by
  intro p k m s hr hi v old new r stored
  have hput : putItem (.key k) (v % 65536) s.settings = { s.settings with keys := vset s.settings.keys k new } := by
    rw [putItem, keyConfigOf_mod]
  have hstored : storedForm (putItem (.key k) (v % 65536) s.settings) (.key k) = stored := by
    rw [hput]
    simp only [storedForm, Fin.getElem_fin, vset_get_self]
    exact storedKeyConfig_eq v
  obtain ⟨he, hanswered⟩ := exec_write_answered (c := .writeKeyConfig p k m) hr hi rfl rfl
    (code_of_unranged (fun _ => rfl) _) hstored (changed := [.keys, .calls]) (applyKeyConfig_frame _ _ _)
  have hnew : keyConfig (storeItem p (.key k) (v % 65536) (heard p s)) k = new := by
    rw [keyConfig, storeItem_settings, (heard_fields p s).2.2.2.2.2.2.2.2.2.2.2.2.2.2.1, hput]
    exact vset_get_self _ _ _
  have hstate : SameExcept [.settings, .journal, .presence, .faults] s (storeItem p (.key k) (v % 65536) (heard p s)) :=
    ((heard_frame p s).mono (by simp)).trans ((storeItem_frame _ _ _ _).mono (by simp))
  have hframe := applyKeyConfig_frame k old (storeItem p (.key k) (v % 65536) (heard p s))
  have hcalls (q : Port) (j : KeyId) :=
    applyKeyConfig_calls_get k old (storeItem p (.key k) (v % 65536) (heard p s)) q j
  refine ⟨_, he, hanswered, (hframe .settings (by decide)).trans hput, ?_, ?_, fun q => ?_, fun q j hj => ?_, ?_⟩
  · exact (hframe .journal (by decide)).trans (storeItem_heard_journal p hstored)
  · refine (applyKeyConfig_keys k old _).trans ?_
    rw [hnew, hstate .keys (by decide)]
    rfl
  · refine (hcalls q k).trans ?_
    simp only [hnew, true_and]
    rfl
  · refine (hcalls q j).trans ?_
    rw [if_neg fun h => hj h.1, hstate .calls (by decide)]
  · exact hframe .faults (by decide)

/-! ## The alarm lines (R185 to R187) -/

theorem mem_faultKinds (k : FaultKind) : k ∈ faultKinds := by cases k <;> decide

/-- A line is driven while its stretch timer runs or a condition mapped to it is active (R185). -/
theorem lineDriven_iff (s : State) (l : Line) : lineDriven s l = true ↔ 0 < s.faults.stretch.get l ∨
    ∃ (k : FaultKind) (p : Port), (s.settings.alarmMap[faultNo k]'(faultNo k).2) = some l
      ∧ (s.faults.active.get p).getLsbD (faultNo k).val = true := by
  simp only [lineDriven, lineOf, Bool.or_eq_true, decide_eq_true_eq, List.any_eq_true, Bool.and_eq_true, beq_iff_eq,
    mem_faultKinds, mem_ports, true_and, exists_and_left]

theorem alarmLineOf_toNat (v : BitVec 16) :
    alarmLineOf v.toNat = if v = 1 then some .line0 else if v = 2 then some .line1 else none := by
  have hiff (n : BitVec 16) : v = n ↔ v.toNat = n.toNat := BitVec.toNat_inj.symm
  have hone : (1 : BitVec 16).toNat = 1 := rfl
  have htwo : (2 : BitVec 16).toNat = 2 := rfl
  simp only [hiff, hone, htwo]
  unfold alarmLineOf
  split <;> simp_all

/-- What a line's value is stored as. -/
theorem storedAlarmLine_eq {v : BitVec 16} (h : v.toNat ≤ 2) :
    (match alarmLineOf v.toNat with | none => 0 | some .line0 => 1 | some .line1 => 2) = v := by
  have hcases : v.toNat = 0 ∨ v.toNat = 1 ∨ v.toNat = 2 := by omega
  apply BitVec.eq_of_toNat_eq
  rcases hcases with h | h | h <;> (rw [h]; rfl)

/-- A unit of work whose input is the state as it stands changes what it touches, the clock and the mark. -/
theorem exec_unit_same {c : Instr} {w : Work} {happens : State → Bool} {changed : List Block} {s : State}
    (hexec : exec c s = whileRunning s (oneUnit w happens id)) (hnot : NotYetTaken w s) (hhappens : happens s = true)
    (hframe : SameExcept changed (s.withClock (clockAtWork s)) (workEffect w (s.withClock (clockAtWork s))))
    (hlatch : .latch ∉ changed := by decide) :
    exec c s = .next (markTaken w (workEffect w (s.withClock (clockAtWork s))))
      ∧ Marked w s (markTaken w (workEffect w (s.withClock (clockAtWork s))))
      ∧ SameExcept (.clock :: .latch :: changed) s (markTaken w (workEffect w (s.withClock (clockAtWork s)))) := by
  refine ⟨exec_unit hexec hnot hhappens rfl, ?_, ?_⟩
  · rw [Marked, markTaken_latch, hframe .latch hlatch]
    rfl
  · exact ((withClock_frame _ s).mono (by simp)).trans ((hframe.mono (by simp +contextual)).trans
      ((markTaken_frame w _).mono (by simp)))

/-- A stretch timer above 0 falls by 1, and the lines follow. -/
theorem countStretch_of_pos {l : Line} {s : State} (h : s.faults.stretch.get l ≠ 0) : countStretch l s
    = driveLines (s.withFaults { s.faults with stretch := s.faults.stretch.set l (s.faults.stretch.get l - 1) }) :=
  if_neg h

/-- Settles O40. -/
theorem alarmLinesFollowTheMapAndTheStretchTimers : Obligations.AlarmLinesFollowTheMapAndTheStretchTimers := by
  refine ⟨fun p f m s hr hi => ?_, fun l s hnot hone => ?_, fun l s => ?_⟩
  · intro v line
    have hle : v.toNat ≤ 2 := le_of_not_refused hi fun _ => ⟨rfl, rfl⟩
    have hput : putItem (.alarm f) v.toNat s.settings
        = { s.settings with alarmMap := vset s.settings.alarmMap (faultNo f) line } := by
      rw [putItem, alarmLineOf_toNat]
    have hstored : storedForm (putItem (.alarm f) v.toNat s.settings) (.alarm f) = v := by
      simp only [putItem, storedForm, Fin.getElem_fin, vset_get_self]
      exact storedAlarmLine_eq hle
    obtain ⟨he, hanswered⟩ := exec_write_answered (c := .writeAlarmMap p f m) hr hi rfl (writtenValue_toNat m)
      (code_of_unranged (fun _ => rfl) _) hstored (changed := [.faults]) (driveLines_frame _)
    have hfaults : (storeItem p (.alarm f) v.toNat (heard p s)).faults = (heard p s).faults :=
      storeItem_frame _ _ _ _ .faults (by decide)
    refine ⟨_, he, hanswered.mono (by simp), hput, ?_, fun l => ?_, ?_, ?_, ?_⟩
    · exact storeItem_heard_journal p hstored
    · exact (Bool.eq_iff_iff.mp (driveLines_driven _ l)).trans (lineDriven_iff _ l)
    · change (storeItem p (.alarm f) v.toNat (heard p s)).faults.stretch = _
      rw [hfaults]
      rfl
    · change (storeItem p (.alarm f) v.toNat (heard p s)).faults.sticky = _
      rw [hfaults]
    · change (storeItem p (.alarm f) v.toNat (heard p s)).faults.active = _
      rw [hfaults]
  · have heffect := countStretch_of_pos (l := l) (s := s.withClock (clockAtWork s))
        (fun h => absurd (hone.symm.trans h) (by decide))
    obtain ⟨he, hmarked, hsame⟩ := exec_unit_same (c := .stretchTimerExpiry l) (w := .stretch l) (by rfl) hnot
      (by simpa using hone) (changed := [.faults]) (countStretch_frame l _)
    refine ⟨_, he, ?_, ?_, ?_, ?_, ?_, hmarked, hsame.mono (by simp)⟩ <;> rw [workEffect, heffect]
    · refine (Bool.eq_iff_iff.mp (driveLines_driven _ l)).trans ((lineDriven_iff _ l).trans ?_)
      simp [hone]
    · simp [hone]
    · rfl
    · rfl
    · rfl
  · refine ⟨fun hzero => if_pos hzero, fun hlt => ?_⟩
    have heffect := countStretch_of_pos (l := l) (s := s) (by omega)
    have hstretch : (countStretch l s).faults.stretch = s.faults.stretch.set l (s.faults.stretch.get l - 1) := by
      rw [heffect]; rfl
    have hdriven (j : Line) : (countStretch l s).faults.driven.get j = lineDriven (countStretch l s) j := by
      rw [heffect]; exact driveLines_driven _ j
    refine ⟨hstretch, by rw [workEffect, heffect]; rfl, by rw [workEffect, heffect]; rfl, hdriven, ?_,
        countStretch_frame l s⟩
    refine (hdriven l).trans ((lineDriven_iff _ l).mpr (.inl ?_))
    rw [hstretch, PerLine.get_set_self]
    omega

end Sys2Proof.Safety
end

section
/-! PROOFS. Claims and releases (R65 to R69, R97). -/
namespace Sys2Proof.Safety

open Sys2Proof.Machine

/-! ## Owners changed one after another -/

section
variable {α : Type} [DecidableEq α] {f : State → α → State} {read : State → α → Option Port}
  {changes : State → α → Bool} {xs : List α} (hnodup : xs.Nodup)
  (hother : ∀ s a b, b ≠ a → changes (f s a) b = changes s b)
include hnodup hother

/-- The owners after each of several subjects has been passed on where it changes. -/
theorem passed_owner {owner : Option Port}
    (hread : ∀ s a b, read (f s a) b = if b = a ∧ changes s a = true then owner else read s b) (s : State) (b : α) :
    read (xs.foldl f s) b = if b ∈ xs ∧ changes s b = true then owner else read s b := by
  rw [foldl_read read (fun s a => if changes s a = true then owner else read s a)
    (fun s a => by rw [hread]; simp) (fun s a b h => by rw [hread]; simp [h])
    (fun s a b h => by rw [hother s a b h, hread]; simp [h]) hnodup]
  by_cases hb : b ∈ xs <;> simp [hb]

omit [DecidableEq α] in
/-- The entries that the changes make, in the order of the subjects. -/
theorem passed_journal {news : α → News}
    (hjournal : ∀ s a, (f s a).journal = if changes s a = true then journalWith [news a] s.journal else s.journal)
    (s : State) : (xs.foldl f s).journal = journalWith ((xs.filter (changes s)).map news) s.journal := by
  rw [foldl_journal (fun s a => if changes s a then [news a] else []) ?_ ?_ hnodup, flatMap_if]
  · intro s a
    rw [hjournal]
    split <;> simp
  · intro s a b h
    rw [hother s a b h]

end

set_option Elab.async false in
theorem setOutOwner_get (o w s) (j : OutId) : ((setOutOwner o w s).owners.out[j]'j.2) = if j
    = o then w else (s.owners.out[j]'j.2) :=
  vset_get _ _ _ _

@[simp] theorem appendEntry_owners (kind subject author value) (s : State) :
    (appendEntry kind subject author value s).owners = s.owners := rfl

/-! ## The claim table (R66) -/

/-- A claim of a subject with this owner is refused. -/
def claimRefused (s : State) (p : Port) (o : Option Port) : Bool :=
  match o with
  | none => false
  | some q => q != p && (s.presence.get q).present

/-- A claim of a subject with this owner changes it. -/
def claimChanges (s : State) (p : Port) (o : Option Port) : Bool := !claimRefused s p o && o != some p

theorem claimResult_refused (s : State) (p : Port) (o : Option Port) :
    (claimResult s p o == .refused) = claimRefused s p o := by
  cases o with
  | none => rfl
  | some q =>
    simp only [claimResult, claimRefused]
    by_cases hq : q = p
    · simp [hq]
    · cases hpresent : (s.presence.get q).present <;> simp [hq]

theorem claimResult_changed (s : State) (p : Port) (o : Option Port) :
    claimResult s p o = .changed ↔ claimChanges s p o = true := by
  cases o with
  | none => simp [claimResult, claimChanges, claimRefused]
  | some q =>
    simp only [claimResult, claimChanges, claimRefused]
    by_cases hq : q = p
    · simp [hq]
    · cases hpresent : (s.presence.get q).present <;> simp [hq]

/-- A desk that is heard is refused no more and no less than before. -/
theorem claimRefused_heard (p : Port) (s : State) (o : Option Port) : claimRefused (heard p s) p o = claimRefused s p o := by
  cases o with
  | none => rfl
  | some q =>
    simp only [claimRefused, heard_presence]
    by_cases hq : q = p
    · simp [hq]
    · rw [PerPort.get_set_ne _ _ hq]

theorem claimChanges_heard (p : Port) (s : State) (o : Option Port) : claimChanges (heard p s) p o = claimChanges s p o := by
  rw [claimChanges, claimRefused_heard, claimChanges]

/-- The claim table, read where a claim changes the owner and where it does not. -/
theorem match_claimResult {β : Type} (s : State) (p : Port) (o : Option Port) (a b : β) :
    (match claimResult s p o with | .changed => a | .kept | .refused => b)
      = if claimChanges s p o = true then a else b := by
  have h := claimResult_changed s p o
  cases hresult : claimResult s p o <;> rw [hresult] at h
  · rw [if_pos (h.mp rfl)]
  · rw [if_neg fun hc => nomatch h.mpr hc]
  · rw [if_neg fun hc => nomatch h.mpr hc]

theorem claimChan_eq (p : Port) (s : State) (c : Chan) : claimChan p s c =
    if claimChanges s p (s.owners.chan[c]'c.2) = true then
      appendEntry .ownerCh c.val (some p) (ownerValue (some p)) (rebase p c (setChanOwner c (some p) s))
    else s :=
  match_claimResult s p (s.owners.chan[c]'c.2) _ s

theorem claimOut_eq (p : Port) (s : State) (o : OutId) : claimOut p s o =
    if claimChanges s p (s.owners.out[o]'o.2) = true then
      appendEntry .ownerOut o.val (some p) (ownerValue (some p)) (setOutOwner o (some p) s)
    else s :=
  match_claimResult s p (s.owners.out[o]'o.2) _ s

theorem claimChanges_frame {l : List Block} {s t : State} (h : SameExcept l s t) (hl : .presence ∉ l := by decide) (p o) :
    claimChanges t p o = claimChanges s p o := by
  have hpresence : t.presence = s.presence := h .presence hl
  cases o with
  | none => rfl
  | some q => simp only [claimChanges, claimRefused, hpresence]

/-! ## Several channels, several outputs -/

section
variable (p : Port) {xs : List Chan} (hnodup : xs.Nodup) (s : State)

theorem claimChan_owner (s) (c d : Chan) : ((claimChan p s c).owners.chan[d]'d.2)
    = if d = c ∧ claimChanges s p (s.owners.chan[c]'c.2) = true then some p else (s.owners.chan[d]'d.2) := by
  rw [claimChan_eq]
  by_cases h : claimChanges s p (s.owners.chan[c]'c.2) = true
  · rw [if_pos h]
    simp only [h, and_true]
    exact setChanOwner_get c (some p) s d
  · rw [if_neg h, if_neg fun hc => h hc.2]

theorem claimChan_track (s) (c : Chan) (q : Port) (d : Chan) : (((claimChan p s c).tracks.get q)[d]'d.2)
    = if q = p ∧ d = c ∧ claimChanges s p (s.owners.chan[c]'c.2)
        = true then rebased (s.channels[c]'c.2).eff ((s.tracks.get p)[c]'c.2)
      else ((s.tracks.get q)[d]'d.2) := by
  rw [claimChan_eq]
  by_cases h : claimChanges s p (s.owners.chan[c]'c.2) = true
  · rw [if_pos h]
    simp only [h, and_true]
    exact rebase_get p c (setChanOwner c (some p) s) q d
  · rw [if_neg h, if_neg fun hc => h hc.2.2]

set_option Elab.async false in
theorem claimChan_changes_other (s) (c d : Chan) (h : d ≠ c) :
    claimChanges (claimChan p s c) p ((claimChan p s c).owners.chan[d]'d.2) = claimChanges s p (s.owners.chan[d]'d.2) := by
  rw [claimChanges_frame (claimChan_frame p s c), claimChan_owner, if_neg fun hc => h hc.1]

include hnodup in
/-- What claims of several channels leave: owners, outputs' owners, the claimer's records and the entries. -/
theorem claimChans_eff :
    let t := xs.foldl (claimChan p) s
    let changes (c : Chan) : Bool := claimChanges s p (s.owners.chan[c]'c.2)
    (∀ c : Chan, (t.owners.chan[c]'c.2) = if c ∈ xs ∧ changes c = true then some p else (s.owners.chan[c]'c.2))
    ∧ t.owners.out = s.owners.out
    ∧ (∀ c : Chan, ((t.tracks.get p)[c]'c.2)
        = if c ∈ xs ∧ changes c = true then rebased (s.channels[c]'c.2).eff
            ((s.tracks.get p)[c]'c.2) else ((s.tracks.get p)[c]'c.2))
    ∧ (∀ q, q ≠ p → t.tracks.get q = s.tracks.get q)
    ∧ t.journal = journalWith ((xs.filter changes).map fun c =>
        ⟨.ownerCh, c.val, some p, BitVec.ofNat 16 (portNo p)⟩) s.journal := by
  intro t changes
  refine ⟨?_, ?_, fun c => ?_, fun q hq => ?_, ?_⟩
  · exact passed_owner (read := fun s c => (s.owners.chan[c]'c.2))
        (changes := fun s c => claimChanges s p (s.owners.chan[c]'c.2))
      hnodup (claimChan_changes_other p) (claimChan_owner p) s
  · refine foldl_keeps (I := fun u => u.owners.out = s.owners.out) (fun u c hu => ?_) xs s rfl
    refine Eq.trans ?_ hu
    rw [claimChan_eq]
    split <;> rfl
  · have hread := foldl_read (f := claimChan p) (fun u d => ((u.tracks.get p)[d]'d.2))
      (fun u d => if claimChanges u p (u.owners.chan[d]'d.2)
          = true then rebased (u.channels[d]'d.2).eff ((u.tracks.get p)[d]'d.2)
        else ((u.tracks.get p)[d]'d.2))
      (fun u d => by rw [claimChan_track]; simp) (fun u d e h => by rw [claimChan_track]; simp [h])
      (fun u d e h => by
        rw [claimChan_changes_other p u d e h, claimChan_track, claimChan_frame p u d .channels (by decide)]; simp [h])
      hnodup s c
    rw [hread]
    by_cases hc : c ∈ xs <;> simp [hc, changes]
  · refine foldl_keeps (I := fun u => u.tracks.get q = s.tracks.get q) (fun u c hu => ?_) xs s rfl
    refine Eq.trans (vector_ext_fin fun d => ?_) hu
    rw [claimChan_track, if_neg fun h => hq h.1]
  · refine passed_journal (changes := fun s c => claimChanges s p (s.owners.chan[c]'c.2)) hnodup (claimChan_changes_other p)
      (news := fun c => ⟨.ownerCh, c.val, some p, BitVec.ofNat 16 (portNo p)⟩) (fun u c => ?_) s
    rw [claimChan_eq]
    split
    · exact appendEntry_journal _ _ _ _ _
    · rfl

end

end Sys2Proof.Safety
end

section
/-! PROOFS. Claims and releases, continued: outputs, releases, and the answered messages (R66 to R69, R97). -/
namespace Sys2Proof.Safety

open Sys2Proof.Machine

/-! ## Claims of outputs (R68) -/

section
variable (p : Port) {xs : List OutId} (hnodup : xs.Nodup) (s : State)

theorem claimOut_owner (s) (o j : OutId) : ((claimOut p s o).owners.out[j]'j.2)
    = if j = o ∧ claimChanges s p (s.owners.out[o]'o.2) = true then some p else (s.owners.out[j]'j.2) := by
  rw [claimOut_eq]
  by_cases h : claimChanges s p (s.owners.out[o]'o.2) = true
  · rw [if_pos h]
    simp only [h, and_true]
    exact setOutOwner_get o (some p) s j
  · rw [if_neg h, if_neg fun hc => h hc.2]

theorem claimOut_changes_other (s) (o j : OutId) (h : j ≠ o) :
    claimChanges (claimOut p s o) p ((claimOut p s o).owners.out[j]'j.2) = claimChanges s p (s.owners.out[j]'j.2) := by
  rw [claimChanges_frame (claimOut_frame p s o), claimOut_owner, if_neg fun hc => h hc.1]

include hnodup in
/-- What claims of several outputs leave. -/
theorem claimOuts_eff :
    let t := xs.foldl (claimOut p) s
    let changes (o : OutId) : Bool := claimChanges s p (s.owners.out[o]'o.2)
    (∀ o : OutId, (t.owners.out[o]'o.2) = if o ∈ xs ∧ changes o = true then some p else (s.owners.out[o]'o.2))
    ∧ t.owners.chan = s.owners.chan
    ∧ t.journal = journalWith ((xs.filter changes).map fun o =>
        ⟨.ownerOut, o.val, some p, BitVec.ofNat 16 (portNo p)⟩) s.journal := by
  intro t changes
  refine ⟨?_, ?_, ?_⟩
  · exact passed_owner (read := fun s o => (s.owners.out[o]'o.2))
        (changes := fun s o => claimChanges s p (s.owners.out[o]'o.2))
      hnodup (claimOut_changes_other p) (claimOut_owner p) s
  · refine foldl_keeps (I := fun u => u.owners.chan = s.owners.chan) (fun u o hu => ?_) xs s rfl
    refine Eq.trans ?_ hu
    rw [claimOut_eq]
    split <;> rfl
  · refine passed_journal (changes := fun s o => claimChanges s p (s.owners.out[o]'o.2)) hnodup (claimOut_changes_other p)
      (news := fun o => ⟨.ownerOut, o.val, some p, BitVec.ofNat 16 (portNo p)⟩) (fun u o => ?_) s
    rw [claimOut_eq]
    split
    · exact appendEntry_journal _ _ _ _ _
    · rfl

end

/-! ## Releases, by the owner or by STAGE (R58, R67, R69) -/

/-- A channel that a port owns released, with an entry by an author. -/
def freeChan (author : Option Port) (p : Port) (s : State) (c : Chan) : State :=
  if (s.owners.chan[c]'c.2) == some p then
    appendEntry .ownerCh c.val author (ownerValue none) (setChanOwner c none s)
  else s

/-- An output that a port owns released, with an entry by an author. -/
def freeOut (author : Option Port) (p : Port) (s : State) (o : OutId) : State :=
  if (s.owners.out[o]'o.2) == some p then
    appendEntry .ownerOut o.val author (ownerValue none) (setOutOwner o none s)
  else s

theorem releaseChan_eq (p : Port) : releaseChan p = freeChan (some p) p := rfl
theorem releaseOut_eq (p : Port) : releaseOut p = freeOut (some p) p := rfl
theorem releaseChanAtExpiry_eq (p : Port) : releaseChanAtExpiry p = freeChan none p := rfl
theorem releaseOutAtExpiry_eq (p : Port) : releaseOutAtExpiry p = freeOut none p := rfl

section
variable (author : Option Port) (p : Port) (s : State)

theorem freeChan_owner (s) (c d : Chan) : ((freeChan author p s c).owners.chan[d]'d.2)
    = if d = c ∧ ((s.owners.chan[c]'c.2) == some p) = true then none else (s.owners.chan[d]'d.2) := by
  unfold freeChan
  split
  · next h =>
    simp only [h, and_true]
    exact setChanOwner_get c none s d
  · next h => exact (if_neg fun hc => h hc.2).symm

theorem freeOut_owner (s) (o j : OutId) : ((freeOut author p s o).owners.out[j]'j.2)
    = if j = o ∧ ((s.owners.out[o]'o.2) == some p) = true then none else (s.owners.out[j]'j.2) := by
  unfold freeOut
  split
  · next h =>
    simp only [h, and_true]
    exact setOutOwner_get o none s j
  · next h => exact (if_neg fun hc => h hc.2).symm

/-- What the release of several channels leaves. -/
theorem freeChans_eff {xs : List Chan} (hnodup : xs.Nodup) :
    let t := xs.foldl (freeChan author p) s
    let freed (c : Chan) : Bool := (s.owners.chan[c]'c.2) == some p
    (∀ c : Chan, (t.owners.chan[c]'c.2) = if c ∈ xs ∧ freed c = true then none else (s.owners.chan[c]'c.2))
    ∧ t.owners.out = s.owners.out
    ∧ t.journal = journalWith ((xs.filter freed).map fun c => ⟨.ownerCh, c.val, author, 3⟩) s.journal := by
  intro t freed
  have hother (s : State) (c d : Chan) (h : d ≠ c) :
      (((freeChan author p s c).owners.chan[d]'d.2) == some p) = ((s.owners.chan[d]'d.2) == some p) := by
    rw [freeChan_owner, if_neg fun hc => h hc.1]
  refine ⟨?_, ?_, ?_⟩
  · exact passed_owner (read := fun s c => (s.owners.chan[c]'c.2)) (changes := fun s c => (s.owners.chan[c]'c.2) == some p)
      hnodup hother (freeChan_owner author p) s
  · refine foldl_keeps (I := fun u => u.owners.out = s.owners.out) (fun u c hu => ?_) xs s rfl
    refine Eq.trans ?_ hu
    unfold freeChan
    split <;> rfl
  · refine passed_journal (changes := fun s c => (s.owners.chan[c]'c.2) == some p) hnodup hother
      (news := fun c => ⟨.ownerCh, c.val, author, 3⟩) (fun u c => ?_) s
    unfold freeChan
    split
    · exact appendEntry_journal _ _ _ _ _
    · rfl

set_option Elab.async false in
/-- What the release of several outputs leaves. -/
theorem freeOuts_eff {xs : List OutId} (hnodup : xs.Nodup) :
    let t := xs.foldl (freeOut author p) s
    let freed (o : OutId) : Bool := (s.owners.out[o]'o.2) == some p
    (∀ o : OutId, (t.owners.out[o]'o.2) = if o ∈ xs ∧ freed o = true then none else (s.owners.out[o]'o.2))
    ∧ t.owners.chan = s.owners.chan
    ∧ t.journal = journalWith ((xs.filter freed).map fun o => ⟨.ownerOut, o.val, author, 3⟩) s.journal := by
  intro t freed
  have hother (s : State) (o j : OutId) (h : j ≠ o) :
      (((freeOut author p s o).owners.out[j]'j.2) == some p) = ((s.owners.out[j]'j.2) == some p) := by
    rw [freeOut_owner, if_neg fun hc => h hc.1]
  refine ⟨?_, ?_, ?_⟩
  · exact passed_owner (read := fun s o => (s.owners.out[o]'o.2)) (changes := fun s o => (s.owners.out[o]'o.2) == some p)
      hnodup hother (freeOut_owner author p) s
  · refine foldl_keeps (I := fun u => u.owners.chan = s.owners.chan) (fun u o hu => ?_) xs s rfl
    refine Eq.trans ?_ hu
    unfold freeOut
    split <;> rfl
  · refine passed_journal (changes := fun s o => (s.owners.out[o]'o.2) == some p) hnodup hother
      (news := fun o => ⟨.ownerOut, o.val, author, 3⟩) (fun u o => ?_) s
    unfold freeOut
    split
    · exact appendEntry_journal _ _ _ _ _
    · rfl

end

/-! ## The subjects that a message names -/

theorem mem_chanRange {m : Msg} {c : Chan} : c ∈ chanRange m.arg.toNat (countField m) ↔
    m.arg.toNat ≤ c.val ∧ c.val < m.arg.toNat + word m 0 % 64 := by
  rw [chanRange_eq, List.mem_filter, decide_eq_true_eq]
  exact and_iff_right (List.mem_finRange c)

theorem value16_bit (m : Msg) (o : OutId) : (value16 m).getLsbD o.val = (word m 0).testBit o.val := by
  have ho : o.val < 16 := o.isLt
  rw [BitVec.getLsbD, value16_toNat, show 65536 = 2 ^ 16 from rfl, Nat.testBit_mod_two_pow]
  simp [ho]

theorem mem_outsOf {m : Msg} {o : OutId} : o ∈ outsOf (value16 m) ↔ (word m 0).testBit o.val = true := by
  rw [outsOf, List.mem_filter, value16_bit]
  exact and_iff_right (List.mem_finRange o)

theorem outsOf_nodup (v : BitVec 16) : (outsOf v).Nodup := (List.nodup_finRange 16).filter _

theorem filter_chanRange (m : Msg) (test : Chan → Bool) : (chanRange m.arg.toNat (countField m)).filter test
    = (List.finRange 48).filter fun c =>
        decide (m.arg.toNat ≤ c.val ∧ c.val < m.arg.toNat + word m 0 % 64) && test c := by
  rw [chanRange_eq, List.filter_filter]
  exact congrArg (fun t => (List.finRange 48).filter t) (funext fun c => Bool.and_comm _ _)

theorem filter_outsOf (m : Msg) (test : OutId → Bool) : (outsOf (value16 m)).filter test
    = (List.finRange 16).filter fun o => (word m 0).testBit o.val && test o := by
  rw [outsOf, List.filter_filter]
  exact congrArg (fun t => (List.finRange 16).filter t) (funext fun o => by rw [value16_bit, Bool.and_comm])

/-- What a claim changes: it is named, not refused and not the claimer's own. -/
theorem named_claimChanges (named : Bool) (s : State) (p : Port) (o : Option Port) :
    (named && !(named && claimRefused s p o) && o != some p) = (named && claimChanges s p o) := by
  cases named <;> simp [claimChanges]

end Sys2Proof.Safety
end

section
/-! PROOFS. CLAIM_CHANNELS, CLAIM_OUTPUTS and the releases answered (R66 to R69). -/
namespace Sys2Proof.Safety

open Sys2Proof.Machine

set_option Elab.async false in
/-- Settles O22. -/
theorem claimChannelsGrantsWhatNoPresentDeskOwns : Obligations.ClaimChannelsGrantsWhatNoPresentDeskOwns := by
  intro p m s hr h named refused changes
  have hrefused : (fun c : Chan => inRange m c.val && claimResult (heard p s) p ((heard p s).owners.chan[c]'c.2) == .refused)
      = refused := by
    funext c
    rw [claimResult_refused, claimRefused_heard, inRange_eq]
    rfl
  have hchanges (c : Chan) : changes c = (named c && claimChanges s p (s.owners.chan[c]'c.2)) :=
    named_claimChanges (named c) s p (s.owners.chan[c]'c.2)
  obtain ⟨after, hafter⟩ : ∃ t, (chanRange m.arg.toNat (countField m)).foldl (claimChan p) (heard p s) = t := ⟨_, rfl⟩
  have hanswer : answerClaimChannels p m (heard p s)
      = ⟨if (List.finRange 48).any refused then .owned else .done, chanMaskWords refused, settle after⟩ := by
    refine (judged_executed ((firstFailing_range 48 m).trans h)).trans ?_
    rw [hrefused, hafter]
  have hfold : SameExcept [.owners, .tracks, .journal] (heard p s) after := by
    rw [← hafter]
    exact SameExcept.foldl (claimChan_frame p) _ _
  obtain ⟨he, hanswered⟩ := exec_answered (changed := [.owners, .tracks, .journal, .faults]) (c := .claimChannels p m) hr
    (by rfl) hanswer ((hfold.mono (by simp)).trans ((settle_frame after).mono (by simp)))
  obtain ⟨hchan, hout, htrack, hothers, hjournal⟩ :=
    claimChans_eff p (chanRange_nodup m.arg.toNat (countField m)) (heard p s)
  rw [hafter] at hchan hout htrack hothers hjournal
  have hmem (c : Chan) : (c ∈ chanRange m.arg.toNat (countField m)
      ∧ claimChanges (heard p s) p ((heard p s).owners.chan[c]'c.2) = true) ↔ changes c = true := by
    rw [hchanges, Bool.and_eq_true, mem_chanRange, decide_eq_true_eq, claimChanges_heard]
    rfl
  refine ⟨_, chanMaskWords refused, he, isChanMask_chanMaskWords refused, hanswered.mono (by simp), fun c => ?_, hout,
    fun c => ?_, hothers, ?_, onlyConditionsReported_replied (hfold .faults (by decide))⟩
  · exact (hchan c).trans (if_congr (hmem c) rfl rfl)
  · exact (htrack c).trans (if_congr (hmem c) rfl rfl)
  · refine hjournal.trans ?_
    rw [filter_chanRange]
    have hfilter : (fun c : Chan => decide (m.arg.toNat ≤ c.val ∧ c.val < m.arg.toNat + word m 0 % 64)
        && claimChanges (heard p s) p ((heard p s).owners.chan[c]'c.2)) = changes := by
      funext c
      rw [hchanges, claimChanges_heard]
      rfl
    rw [hfilter]
    rfl

/-- CLAIM_OUTPUTS (R68). -/
theorem claimOutputs_executed (p : Port) (m : Msg) (s : State) (hr : Ready p s) (h : refuseLength 1 m = none) :
    let refused (o : OutId) : Bool := (word m 0).testBit o.val && claimRefused s p (s.owners.out[o]'o.2)
    let changes (o : OutId) : Bool := (word m 0).testBit o.val && !refused o && (s.owners.out[o]'o.2) != some p
    ∃ t body, exec (.claimOutputs p m) s = .next t
      ∧ IsOutMask (fun o => refused o = true) body
      ∧ Answered p ⟨4, m.tag, if (List.finRange 16).any refused then .owned else .done, body⟩ [.owners, .journal] s t
      ∧ (∀ o : OutId, (t.owners.out[o]'o.2) = if changes o then some p else (s.owners.out[o]'o.2))
      ∧ t.owners.chan = s.owners.chan
      ∧ t.journal = journalWith (((List.finRange 16).filter changes).map fun o =>
          ⟨.ownerOut, o.val, some p, BitVec.ofNat 16 (portNo p)⟩) s.journal
      ∧ FaultsAsHeard p s t := by
  intro refused changes
  have hrefused : (fun o : OutId => (value16 m).getLsbD o.val
      && claimResult (heard p s) p ((heard p s).owners.out[o]'o.2) == .refused) = refused := by
    funext o
    rw [claimResult_refused, claimRefused_heard, value16_bit]
    rfl
  have hchanges (o : OutId) : changes o = ((word m 0).testBit o.val && claimChanges s p (s.owners.out[o]'o.2)) :=
    named_claimChanges _ s p (s.owners.out[o]'o.2)
  let xs := outsOf (value16 m)
  let after := xs.foldl (claimOut p) (heard p s)
  have hanswer : answerClaimOutputs p m (heard p s)
      = ⟨if (List.finRange 16).any refused then .owned else .done, [payload [fieldAt 15 0 (outMask refused).toNat]],
          after⟩ := by
    refine (judged_executed ((firstFailing_length 1 m).trans h)).trans ?_
    rw [hrefused]
  have hfold : SameExcept [.owners, .journal] (heard p s) after := SameExcept.foldl (claimOut_frame p) _ _
  obtain ⟨he, hanswered⟩ := exec_answered (c := .claimOutputs p m) hr (by rfl) hanswer hfold
  obtain ⟨hout, hchan, hjournal⟩ := claimOuts_eff p (outsOf_nodup _ : xs.Nodup) (heard p s)
  refine ⟨_, _, he, isOutMask_outMask refused, hanswered, fun o => ?_, hchan, ?_, hfold .faults (by decide)⟩
  · refine (hout o).trans ?_
    rw [hchanges, ← claimChanges_heard]
    simp only [mem_outsOf, Bool.and_eq_true]
    rfl
  · refine hjournal.trans ?_
    rw [filter_outsOf]
    have hfilter : (fun o : OutId => (word m 0).testBit o.val
        && claimChanges (heard p s) p ((heard p s).owners.out[o]'o.2)) = changes := by
      funext o
      rw [hchanges, claimChanges_heard]
      rfl
    rw [hfilter]
    rfl

/-- RELEASE_CHANNELS (R67). -/
theorem releaseChannels_executed (p : Port) (m : Msg) (s : State) (hr : Ready p s) (h : refuseRange 47 48 m = none) :
    let freed (c : Chan) : Bool :=
      decide (m.arg.toNat ≤ c.val ∧ c.val < m.arg.toNat + word m 0 % 64) && (s.owners.chan[c]'c.2) == some p
    ∃ t body, exec (.releaseChannels p m) s = .next t
      ∧ IsChanMask (fun c => freed c = true) body
      ∧ Answered p ⟨3, m.tag, .done, body⟩ [.owners, .journal] s t
      ∧ (∀ c : Chan, (t.owners.chan[c]'c.2) = if freed c then none else (s.owners.chan[c]'c.2))
      ∧ t.owners.out = s.owners.out
      ∧ t.journal = journalWith (((List.finRange 48).filter freed).map fun c => ⟨.ownerCh, c.val, some p, 3⟩) s.journal
      ∧ FaultsAsHeard p s t := by
  intro freed
  have hfreed : (fun c : Chan => inRange m c.val && ((heard p s).owners.chan[c]'c.2) == some p) = freed := by
    funext c
    rw [inRange_eq]
    rfl
  let xs := chanRange m.arg.toNat (countField m)
  let after := xs.foldl (freeChan (some p) p) (heard p s)
  have hanswer : answerReleaseChannels p m (heard p s) = ⟨.done, chanMaskWords freed, after⟩ := by
    refine (judged_executed ((firstFailing_range 48 m).trans h)).trans ?_
    rw [hfreed, releaseChan_eq]
  have hfold : SameExcept [.owners, .journal] (heard p s) after := SameExcept.foldl (releaseChan_frame p) _ _
  obtain ⟨he, hanswered⟩ := exec_answered (c := .releaseChannels p m) hr (by rfl) hanswer hfold
  obtain ⟨hchan, hout, hjournal⟩ := freeChans_eff (some p) p (heard p s) (chanRange_nodup _ _ : xs.Nodup)
  refine ⟨_, _, he, isChanMask_chanMaskWords freed, hanswered, fun c => ?_, hout, ?_, hfold .faults (by decide)⟩
  · refine (hchan c).trans ?_
    simp only [mem_chanRange, freed, Bool.and_eq_true, decide_eq_true_eq]
    rfl
  · refine hjournal.trans ?_
    rw [filter_chanRange]
    rfl

/-- RELEASE_OUTPUTS (R69). -/
theorem releaseOutputs_executed (p : Port) (m : Msg) (s : State) (hr : Ready p s) (h : refuseLength 1 m = none) :
    let freed (o : OutId) : Bool := (word m 0).testBit o.val && (s.owners.out[o]'o.2) == some p
    ∃ t body, exec (.releaseOutputs p m) s = .next t
      ∧ IsOutMask (fun o => freed o = true) body
      ∧ Answered p ⟨5, m.tag, .done, body⟩ [.owners, .journal] s t
      ∧ (∀ o : OutId, (t.owners.out[o]'o.2) = if freed o then none else (s.owners.out[o]'o.2))
      ∧ t.owners.chan = s.owners.chan
      ∧ t.journal = journalWith (((List.finRange 16).filter freed).map fun o => ⟨.ownerOut, o.val, some p, 3⟩) s.journal
      ∧ FaultsAsHeard p s t := by
  intro freed
  have hfreed : (fun o : OutId => (value16 m).getLsbD o.val && ((heard p s).owners.out[o]'o.2) == some p) = freed := by
    funext o
    rw [value16_bit]
    rfl
  let xs := outsOf (value16 m)
  let after := xs.foldl (freeOut (some p) p) (heard p s)
  have hanswer : answerReleaseOutputs p m (heard p s)
      = ⟨.done, [payload [fieldAt 15 0 (outMask freed).toNat]], after⟩ := by
    refine (judged_executed ((firstFailing_length 1 m).trans h)).trans ?_
    rw [hfreed, releaseOut_eq]
  have hfold : SameExcept [.owners, .journal] (heard p s) after := SameExcept.foldl (releaseOut_frame p) _ _
  obtain ⟨he, hanswered⟩ := exec_answered (c := .releaseOutputs p m) hr (by rfl) hanswer hfold
  obtain ⟨hout, hchan, hjournal⟩ := freeOuts_eff (some p) p (heard p s) (outsOf_nodup _ : xs.Nodup)
  refine ⟨_, _, he, isOutMask_outMask freed, hanswered, fun o => ?_, hchan, ?_, hfold .faults (by decide)⟩
  · refine (hout o).trans ?_
    simp only [mem_outsOf, freed, Bool.and_eq_true]
    rfl
  · refine hjournal.trans ?_
    rw [filter_outsOf]
    rfl

set_option Elab.async false in
/-- Settles O23. -/
theorem outputClaimsAndReleasesChangeOwnersOnly : Obligations.OutputClaimsAndReleasesChangeOwnersOnly :=
  ⟨claimOutputs_executed, releaseChannels_executed, releaseOutputs_executed⟩

end Sys2Proof.Safety
end

section
/-! PROOFS. Gain, pad and phantom requests, and the mute counters (R74 to R76, R81, R82, R87). -/
namespace Sys2Proof.Safety

open Sys2Proof.Machine

/-- The 16-bit number of a message's first word, as a signed number. -/
theorem signedOf_bodyWord (m : Msg) : signedOf 16 (bodyWord m 0) = ((m.body[0]?.getD 0).setWidth 16).toInt := by
  rw [signedOf, bodyWord_eq, word, BitVec.ofNat_toNat]

theorem value16_beq_one (m : Msg) : (value16 m == 1) = (word m 0 % 65536 == 1) := by
  rw [Bool.eq_iff_iff, beq_iff_eq, beq_iff_eq, ← value16_toNat]
  exact BitVec.toNat_inj.symm

/-! ## SET_GAIN and SET_PAD (R74, R75, R76) -/

theorem standingStep_eq (ch : Channel) : standingStep ch = match ch.pending with
    | some st => st
    | none => { gain := ch.gain, pad := ch.pad, waited := 0 } := by
  cases h : ch.pending <;> simp [standingStep, h]

/-- Clamped to 10 to 130, then rounded down to even. -/
theorem evenClamped_eq (asked : Int) :
    let clamped := max 10 (min asked 130)
    clampTo 10 130 asked - clampTo 10 130 asked % 2 = if clamped % 2 = 0 then clamped else clamped - 1 := by
  intro clamped
  change clamped - clamped % 2 = _
  split <;> omega

/-- Settles O25. -/
theorem setGainAndSetPadMakeOrRetargetTheStep : Obligations.SetGainAndSetPadMakeOrRetargetTheStep := by
  intro p m c s hr hc ch asked clamped stands
  obtain rfl : chanArg m = c := chanArg_eq hc
  have hstands : standingStep ch = stands := (standingStep_eq ch).trans rfl
  have hheard : ((heard p s).channels[chanArg m]'(chanArg m).2) = ch := rfl
  have hasked : signedOf 16 (bodyWord m 0) = asked := signedOf_bodyWord m
  refine ⟨fun h => ?_, fun h => ?_⟩
  · intro st
    have hanswer : answerSetGain p m (heard p s) = ⟨if clamped = asked then .done else .clamped, [stepBits st],
        setChannel (chanArg m) { ch with pending := some st } (heard p s)⟩ := by
      refine (judged_executed ((firstFailing_gain p m _).trans h)).trans ?_
      dsimp only
      rw [hasked, evenClamped_eq asked, stepWord_eq, hheard, hstands]
      rfl
    obtain ⟨he, hanswered⟩ := exec_answered (changed := [.channels]) (c := .setGain p m) hr (by rfl) hanswer
      (setChannel_frame _ _ _)
    exact ⟨_, he, hanswered, rfl, rfl⟩
  · intro st
    have hanswer : answerSetPad p m (heard p s)
        = ⟨.done, [stepBits st], setChannel (chanArg m) { ch with pending := some st } (heard p s)⟩ := by
      refine (judged_executed ((firstFailing_channel true true p m _).trans h)).trans ?_
      dsimp only
      rw [value16_beq_one, stepWord_eq, hheard, hstands]
    obtain ⟨he, hanswered⟩ := exec_answered (changed := [.channels]) (c := .setPad p m) hr (by rfl) hanswer
      (setChannel_frame _ _ _)
    exact ⟨_, he, hanswered, rfl, rfl⟩

/-! ## SET_PHANTOM (R81, R87) -/

/-- A request touches the record's request, state and mute counter alone. -/
theorem requestPhantom_record (bank : BankState) (on : Bool) (ch : Channel) :
    let r := (requestPhantom bank on ch).1
    r = { ch with request := on, phantom := r.phantom, mute := r.mute } := by
  unfold requestPhantom
  split
  case h_1 => split <;> rfl
  all_goals rfl

/-- The table of R81. -/
theorem requestPhantom_table (bank : BankState) (on : Bool) (ch : Channel) :
    let r := (requestPhantom bank on ch).1
    let code : Code := if (requestPhantom bank on ch).2 then .deferred else .done
    let held := bank = .holdoff ∨ bank = .lockedOut
    (on = true → ch.phantom = .off → ¬ held → r.phantom = .rampUp ∧ r.mute = 1800 ∧ code = .done)
    ∧ (on = true → ch.phantom = .off → held → r.phantom = .shed ∧ r.mute = ch.mute ∧ code = .deferred)
    ∧ (on = true → ch.phantom = .rampDown → r.phantom = .rampUp ∧ r.mute = 1800 ∧ code = .done)
    ∧ (on = true → ch.phantom = .rampUp ∨ ch.phantom = .on → r.phantom = ch.phantom ∧ r.mute = ch.mute ∧ code = .done)
    ∧ (on = true → ch.phantom = .shed → r.phantom = .shed ∧ r.mute = ch.mute ∧ code = .deferred)
    ∧ (on = false → ch.phantom = .rampUp ∨ ch.phantom = .on → r.phantom = .rampDown ∧ r.mute = 1800 ∧ code = .done)
    ∧ (on = false → ch.phantom = .shed → r.phantom = .off ∧ r.mute = ch.mute ∧ code = .done)
    ∧ (on = false → ch.phantom = .off ∨ ch.phantom = .rampDown →
        r.phantom = ch.phantom ∧ r.mute = ch.mute ∧ code = .done) := by
  intro r code held
  have hheld : bankHeldOff bank = true ↔ held := by cases bank <;> simp [bankHeldOff, held]
  refine ⟨?_, ?_, ?_, ?_, ?_, ?_, ?_, ?_⟩
  · intro hon hstate hfree
    simp [r, code, requestPhantom, hon, hstate, mt hheld.mp hfree]
  · intro hon hstate hhold
    simp [r, code, requestPhantom, hon, hstate, hheld.mpr hhold]
  · intro hon hstate
    simp [r, code, requestPhantom, hon, hstate]
  · rintro hon (hstate | hstate) <;> simp [r, code, requestPhantom, hon, hstate]
  · intro hon hstate
    simp [r, code, requestPhantom, hon, hstate]
  · rintro hon (hstate | hstate) <;> simp [r, code, requestPhantom, hon, hstate]
  · intro hon hstate
    simp [r, code, requestPhantom, hon, hstate]
  · rintro hon (hstate | hstate) <;> simp [r, code, requestPhantom, hon, hstate]

theorem settledState_iff (state : PhState) : settledState state = true ↔ state = .on ∨ state = .off ∨ state = .shed := by
  cases state <;> decide

/-- The entry that a moved phantom record makes (R87). -/
theorem movePhantom_journal (author : Option Port) (c : Chan) (ch : Channel) (s : State) :
    (movePhantom author c ch s).journal = journalWith
      (if ch.request != (s.channels[c]'c.2).request || (ch.phantom != (s.channels[c]'c.2).phantom && settledState ch.phantom)
          || (author == none && (s.channels[c]'c.2).phantom == .shed && ch.phantom == .rampUp)
        then [⟨.phantom, c.val, author, phantomNews ch.phantom ch.request⟩] else []) s.journal := by
  unfold movePhantom
  dsimp only
  split
  · rw [appendEntry_journal, phantomValue_eq]
    rfl
  · rw [journalWith_nil]
    rfl

/-- SET_PHANTOM (R81). -/
theorem setPhantom_executed (p : Port) (m : Msg) (c : Chan) (s : State) (hr : Ready p s) (hc : m.arg.toNat = c.val)
    (h : refuseChannel true true p m s = none) :
    let ch := (s.channels[c]'c.2)
    let on := word m 0 % 65536 == 1
    let r := requestPhantom (s.phantom.banks[bankOf c]'(bankOf c).2).state on ch
    let ch' := sendSetting r.1
    ∃ t, exec (.setPhantom p m) s = .next t
      ∧ Answered p ⟨9, m.tag, if r.2 then .deferred else .done, [phantomBits ch']⟩ [.channels, .journal] s t
      ∧ t.channels = vset s.channels c ch'
      ∧ t.journal = journalWith
          (if ch.request ≠ on ∨ (ch'.phantom ≠ ch.phantom ∧ (ch'.phantom = .on ∨ ch'.phantom = .off ∨ ch'.phantom = .shed))
            then [⟨.phantom, c.val, some p, phantomNews ch'.phantom on⟩] else []) s.journal
      ∧ FaultsAsHeard p s t := by
  obtain rfl : chanArg m = c := chanArg_eq hc
  intro ch on r ch'
  have hanswer : answerSetPhantom p m (heard p s)
      = ⟨if r.2 then .deferred else .done, [phantomBits ch'], movePhantom (some p) (chanArg m) r.1 (heard p s)⟩ := by
    refine (judged_executed ((firstFailing_channel true true p m _).trans h)).trans ?_
    rw [value16_beq_one, phantomWord_eq]
    rfl
  have hframe := movePhantom_frame (some p) (chanArg m) r.1 (heard p s)
  obtain ⟨he, hanswered⟩ := exec_answered (c := .setPhantom p m) hr (by rfl) hanswer hframe
  refine ⟨_, he, hanswered, movePhantom_channels _ _ _ _, ?_, hframe .faults (by decide)⟩
  refine (movePhantom_journal _ _ _ _).trans ?_
  have hrequest : r.1.request = on := congrArg Channel.request (requestPhantom_record _ on ch)
  have hnews : (r.1.request != ch.request || (r.1.phantom != ch.phantom && settledState r.1.phantom)
      || ((some p : Option Port) == none && ch.phantom == .shed && r.1.phantom == .rampUp)) = true
      ↔ ch.request ≠ on ∨ (r.1.phantom ≠ ch.phantom ∧ (r.1.phantom = .on ∨ r.1.phantom = .off ∨ r.1.phantom = .shed)) := by
    rw [hrequest, Bool.or_eq_true, Bool.or_eq_true, Bool.and_eq_true, settledState_iff, bne_iff_ne, bne_iff_ne]
    simp [ne_comm]
  refine congrArg (fun news => journalWith news s.journal) (if_congr hnews ?_ rfl)
  rw [hrequest]
  rfl

/-! ## The mute counters (R82) -/

theorem countMute_of_one {c : Chan} {s : State} (h : (s.channels[c]'c.2).mute = 1) : countMute c s =
    match (s.channels[c]'c.2).phantom with
    | .rampUp => movePhantom none c { (s.channels[c]'c.2) with mute := 0, phantom := .on } s
    | .rampDown => movePhantom none c { (s.channels[c]'c.2) with mute := 0, phantom := .off } s
    | .off | .on | .shed => setChannel c { (s.channels[c]'c.2) with mute := 0 } s := by
  unfold countMute
  cases hphantom : (s.channels[c]'c.2).phantom <;>
    simp only [h, hphantom, Nat.one_ne_zero, if_false, Nat.sub_self, if_true]

set_option Elab.async false in
/-- The count that brings a mute counter to 0 ends a ramp (R82). -/
theorem countMute_ends {c : Chan} {s : State} {state : PhState} (hmute : (s.channels[c]'c.2).mute = 1)
    (h : (s.channels[c]'c.2).phantom = .rampUp ∧ state = .on ∨ (s.channels[c]'c.2).phantom = .rampDown ∧ state = .off) :
    let ch := (s.channels[c]'c.2)
    (countMute c s).channels
        = vset s.channels c { ch with phantom := state, mute := 0, sent := sentSetting ch.gain ch.pad state }
      ∧ (countMute c s).journal
        = journalWith [⟨.phantom, c.val, none, phantomNews state ch.request⟩] s.journal := by
  have hmove : countMute c s = movePhantom none c { (s.channels[c]'c.2) with mute := 0, phantom := state } s := by
    rw [countMute_of_one hmute]
    rcases h with ⟨hstate, rfl⟩ | ⟨hstate, rfl⟩ <;> rw [hstate]
  have hnews : (state != (s.channels[c]'c.2).phantom && settledState state) = true := by
    rcases h with ⟨hstate, rfl⟩ | ⟨hstate, rfl⟩ <;> (rw [hstate]; rfl)
  rw [hmove, movePhantom_channels, sendSetting_eq, movePhantom_journal,
      if_pos (by simp only [hnews, Bool.or_true, Bool.true_or])]
  exact ⟨rfl, rfl⟩

/-- In any other state it only reaches 0. -/
theorem countMute_rests {c : Chan} {s : State} (hmute : (s.channels[c]'c.2).mute = 1)
    (h : (s.channels[c]'c.2).phantom = .on ∨ (s.channels[c]'c.2).phantom = .off ∨ (s.channels[c]'c.2).phantom = .shed) :
    countMute c s = setChannel c { (s.channels[c]'c.2) with mute := 0 } s := by
  rw [countMute_of_one hmute]
  rcases h with hstate | hstate | hstate <;> rw [hstate]

set_option Elab.async false in
/-- Settles O27. -/
theorem setPhantomAndTheMuteCounterMoveTheState : Obligations.SetPhantomAndTheMuteCounterMoveTheState := by
  refine ⟨fun p m c s hr hc h => ?_, fun c s hnot => ?_, fun c s => ?_⟩
  · intro ch on held
    obtain ⟨t, he, hanswered, hchannels, hjournal, hfaults⟩ := setPhantom_executed p m c s hr hc h
    obtain ⟨hfree, hhold, hdown, hup, hshed, hend, hdrop, hrest⟩ :=
      requestPhantom_table (s.phantom.banks[bankOf c]'(bankOf c).2).state on ch
    refine ⟨t, _, _, he, hanswered, hchannels, ?_, hfree, hhold, hdown, hup, hshed, hend, hdrop, hrest, hjournal, hfaults⟩
    have hrecord := requestPhantom_record (s.phantom.banks[bankOf c]'(bankOf c).2).state on ch
    rw [sendSetting_eq]
    dsimp only at hrecord ⊢
    rw [hrecord]
  · intro ch ends hmute
    obtain ⟨he, hmarked, hsame⟩ := exec_unit_same (c := .muteCounterExpiry c) (w := .mute c) (by rfl) hnot
      (by exact beq_iff_eq.mpr hmute) (changed := [.channels, .journal]) (countMute_frame c _)
    let before := s.withClock (clockAtWork s)
    refine ⟨_, he, fun hstate => ?_, fun hstate => ?_, fun hstate => ?_, ?_, hmarked, hsame.mono (by simp)⟩
    · exact countMute_ends (s := before) hmute (.inl ⟨hstate, rfl⟩)
    · exact countMute_ends (s := before) hmute (.inr ⟨hstate, rfl⟩)
    · rw [workEffect, countMute_rests (s := before) hmute hstate]
      exact ⟨rfl, rfl⟩
    · exact (markTaken_fields _ _).2.2.2.2.2.1.trans (countMute_frame c _ .clock (by decide))
  · intro ch
    refine ⟨fun hlt => ?_, fun hzero => if_pos hzero⟩
    change countMute c s = _
    unfold countMute
    have hstill : ch.mute - 1 ≠ 0 := by omega
    rw [if_neg (by omega : ch.mute ≠ 0), if_neg hstill]
    rfl

end Sys2Proof.Safety
end

section
/-! PROOFS. SET_TRIM and SET_TRACKING (R98 to R100). -/
namespace Sys2Proof.Safety

open Sys2Proof.Machine

/-- The claims' words for a recomputed record (R93). -/
theorem recompute_eq_withGain (E : Int) (t : Track) : recompute E t = withGain E t := rfl

/-- A record whose flag SET_TRACKING sets: one that goes from ON to OFF is rebased first (R100). -/
def flagSet (on : Bool) (E : Int) (t : Track) : Track :=
  { (if t.tracking && !on then rebased E t else t) with tracking := on }

theorem setTrackingOne_get (p : Port) (on : Bool) (s : State) (c : Chan) (q : Port) (d : Chan) :
    (((setTrackingOne p on s c).tracks.get q)[d]'d.2)
      = if q = p ∧ d = c then flagSet on (s.channels[c]'c.2).eff ((s.tracks.get p)[c]'c.2) else ((s.tracks.get q)[d]'d.2) :=
  setTrack_get _ _ _ _ _ _

/-- The records after SET_TRACKING's work on several channels. -/
theorem setTracking_get (p : Port) (on : Bool) {xs : List Chan} (hnodup : xs.Nodup) (s : State) (c : Chan) :
    (((xs.foldl (setTrackingOne p on) s).tracks.get p)[c]'c.2)
      = if c ∈ xs then flagSet on (s.channels[c]'c.2).eff ((s.tracks.get p)[c]'c.2) else ((s.tracks.get p)[c]'c.2) := by
  refine foldl_read (f := setTrackingOne p on) (fun s c => ((s.tracks.get p)[c]'c.2))
    (fun s c => flagSet on (s.channels[c]'c.2).eff ((s.tracks.get p)[c]'c.2))
    (fun s c => ?_) (fun s c d h => ?_) (fun s c d h => ?_) hnodup s c
  · rw [setTrackingOne_get, if_pos ⟨rfl, rfl⟩]
  · rw [setTrackingOne_get, if_neg fun hc => h hc.2]
  · have hchannels : (setTrackingOne p on s c).channels = s.channels := setTrack_frame _ _ _ _ .channels (by decide)
    rw [setTrackingOne_get, if_neg fun hc => h hc.2, hchannels]

theorem flagSet_cleared (E : Int) {t : Track} (h : t.tracking = true) :
    flagSet false E t = { rebased E t with tracking := false } := by
  rw [flagSet, h]
  rfl

theorem flagSet_kept {on : Bool} (E : Int) {t : Track} (h : t.tracking = false ∨ on = true) :
    flagSet on E t = { t with tracking := on } := by
  have hkept : (t.tracking && !on) = false := by rcases h with h | h <;> simp [h]
  rw [flagSet, hkept]
  rfl

theorem setTracking_other (p : Port) (on : Bool) (xs : List Chan) (s : State) {q : Port} (hq : q ≠ p) :
    (xs.foldl (setTrackingOne p on) s).tracks.get q = s.tracks.get q := by
  refine foldl_keeps (I := fun u => u.tracks.get q = s.tracks.get q) (fun u c hu => ?_) xs s rfl
  refine Eq.trans (vector_ext_fin fun d => ?_) hu
  rw [setTrackingOne_get, if_neg fun h => hq h.1]

/-- Settles O30. -/
theorem setTrimAndSetTrackingActOnTheSendersRecords : Obligations.SetTrimAndSetTrackingActOnTheSendersRecords := by
  refine ⟨fun p m c s hr hc hlength => ?_, fun p m s hr h => ?_⟩
  · intro asked trim r
    obtain rfl : chanArg m = c := chanArg_eq hc
    have hrefuse : refuseChannel false false p m (heard p s) = none := by
      have harg : m.arg.toNat < 48 := hc.trans_lt (chanArg m).isLt
      simp [refuseChannel, hlength, harg]
    have hasked : signedOf 16 (bodyWord m 0) = asked := signedOf_bodyWord m
    have hanswer : answerSetTrim p m (heard p s) = ⟨if trim = asked then .done else .clamped, [trackBits r],
        settle (setTrack p (chanArg m) r (heard p s))⟩ := by
      refine (judged_executed ((firstFailing_trim p m _).trans hrefuse)).trans ?_
      rw [hasked, trackWord_eq]
      rfl
    obtain ⟨he, hanswered⟩ := exec_answered (changed := [.tracks, .faults]) (c := .setTrim p m) hr (by rfl) hanswer
      ((setTrack_frame _ _ _ _).seq (settle_frame _))
    have htracks : (settle (setTrack p (chanArg m) r (heard p s))).tracks
        = s.tracks.set p (vset (s.tracks.get p) (chanArg m) r) :=
      settle_frame _ .tracks (by decide)
    exact ⟨_, he, hanswered.mono (by simp), (replied_frame _ _ _ .tracks (by decide)).trans htracks,
      onlyConditionsReported_replied (setTrack_frame p (chanArg m) r (heard p s) .faults (by decide))⟩
  · intro on named
    have hon : (sideField m == 1) = on := by rw [sideField_eq]
    have hmask : (fun c : Chan => inRange m c.val && (((heard p s).tracks.get p)[c]'c.2).tracking != on)
        = fun c => named c && ((s.tracks.get p)[c]'c.2).tracking != on := by
      funext c
      rw [inRange_eq]
      rfl
    have hmem (c : Chan) : c ∈ chanRange m.arg.toNat (countField m) ↔ named c = true :=
      mem_chanRange.trans decide_eq_true_iff.symm
    clear_value on named
    let xs := chanRange m.arg.toNat (countField m)
    let after := xs.foldl (setTrackingOne p on) (heard p s)
    have hanswer : answerSetTracking p m (heard p s)
        = ⟨.done, chanMaskWords fun c => named c && ((s.tracks.get p)[c]'c.2).tracking != on, settle after⟩ := by
      refine (judged_executed ((firstFailing_side 48 1 m).trans h)).trans ?_
      rw [hon, hmask]
    have hfold : SameExcept [.tracks] (heard p s) after := SameExcept.foldl (fun _ _ => setTrack_frame _ _ _ _) _ _
    have hget (c : Chan) : ((after.tracks.get p)[c]'c.2)
        = if c ∈ xs then flagSet on (s.channels[c]'c.2).eff ((s.tracks.get p)[c]'c.2) else ((s.tracks.get p)[c]'c.2) :=
      setTracking_get p on (chanRange_nodup _ _) (heard p s) c
    have hothers (q : Port) (hq : q ≠ p) : after.tracks.get q = s.tracks.get q := setTracking_other p on xs (heard p s) hq
    clear_value after
    obtain ⟨he, hanswered⟩ := exec_answered (changed := [.tracks, .faults]) (c := .setTracking p m) hr (by rfl) hanswer
      (hfold.seq (settle_frame _))
    have htracks (r : Reply) : (replied p r (settle after)).tracks = after.tracks :=
      (replied_frame _ _ _ .tracks (by decide)).trans (settle_frame _ .tracks (by decide))
    refine ⟨_, _, he, ?_, hanswered.mono (by simp), fun c hc => ?_, fun c hc hwas hoff => ?_, fun c hc hstays => ?_,
      fun q hq => ?_, onlyConditionsReported_replied (hfold .faults (by decide))⟩
    · have hwords := isChanMask_chanMaskWords fun c => named c && ((s.tracks.get p)[c]'c.2).tracking != on
      simpa only [Bool.and_eq_true, bne_iff_ne] using hwords
    · rw [htracks, hget, if_neg fun hin => Bool.false_ne_true (hc.symm.trans ((hmem c).mp hin))]
    · rw [htracks, hget, if_pos ((hmem c).mpr hc), hoff]
      exact flagSet_cleared _ hwas
    · rw [htracks, hget, if_pos ((hmem c).mpr hc)]
      exact flagSet_kept _ hstays
    · rw [htracks]
      exact hothers q hq

end Sys2Proof.Safety
end

section
/-! PROOFS. Sheds, retries and PHANTOM_RESET (R84, R85, R87, R118, R119). -/
namespace Sys2Proof.Safety

open Sys2Proof.Machine

/-! ## Sheds and retries -/

/-- The entry of one channel of a shed (R87). -/
theorem shedChan_journal (s : State) (c : Chan) : (shedChan s c).journal = journalWith
    (if (shedChannel (s.channels[c]'c.2)).phantom != (s.channels[c]'c.2).phantom then
      [⟨.phantom, c.val, none, phantomNews (shedChannel (s.channels[c]'c.2)).phantom (s.channels[c]'c.2).request⟩] else [])
    s.journal := by
  rw [shedChan, movePhantom_journal]
  refine congrArg (fun news => journalWith news s.journal) (if_congr ?_ rfl rfl)
  rw [shedChannel]
  cases (s.channels[c]'c.2).request <;> simp [settledState]

/-- The entry of one channel of a retry (R85, R87). -/
theorem retryChan_journal (s : State) (c : Chan) : (retryChan s c).journal = journalWith
    (if (s.channels[c]'c.2).phantom == .shed then
      [⟨.phantom, c.val, none, phantomNews .rampUp (s.channels[c]'c.2).request⟩] else []) s.journal := by
  rw [retryChan]
  cases h : (s.channels[c]'c.2).phantom == .shed
  · simp only [Bool.false_eq_true, if_false, journalWith_nil]
  · simp only [if_true, movePhantom_journal, h]
    rw [if_pos (by simp)]

set_option Elab.async false in
theorem bankChans_nodup (b : BankId) : (bankChans b).Nodup := chanRange_nodup _ _

theorem filter_bankChans (b : BankId) (test : Chan → Bool) : (bankChans b).filter test = bankWhere b test := by
  rw [bankChans, chanRange, bankWhere, List.filter_filter]
  refine List.filter_congr fun c _ => ?_
  have hbank : (decide (8 * b.val ≤ c.val) && decide (c.val < 8 * b.val + 8)) = (c.val / 8 == b.val) := by
    rw [Bool.eq_iff_iff]
    simp only [Bool.and_eq_true, decide_eq_true_eq, beq_iff_eq]
    omega
  rw [hbank, Bool.and_comm]

theorem moveBank_journal (a b k s) :
    (moveBank a b k s).journal = journalWith [⟨.bank, b.val, a, bankNews k⟩] s.journal := by
  rw [moveBank, appendEntry_journal, bankValue_eq]
  rfl

theorem shedBank_journal (b k s) : (shedBank b k s).journal = journalWith (shedNews b k s) s.journal := by
  have hfold := foldl_journal (f := shedChan) (fun s c =>
      if (shedChannel (s.channels[c]'c.2)).phantom != (s.channels[c]'c.2).phantom then
        [⟨.phantom, c.val, none, phantomNews (shedChannel (s.channels[c]'c.2)).phantom (s.channels[c]'c.2).request⟩] else [])
    shedChan_journal (fun s c d h => by rw [shedChan_get, if_neg h]) (bankChans_nodup b)
    (moveBank none b k s)
  refine ((settle_frame _ .journal (by decide)).trans hfold).trans ?_
  rw [flatMap_if, filter_bankChans, moveBank_journal, ← journalWith_append]
  rfl

theorem retryBank_journal (a b k s) : (retryBank a b k s).journal = journalWith (retryNews a b k s) s.journal := by
  have hfold := foldl_journal (f := retryChan) (fun s c =>
      if (s.channels[c]'c.2).phantom == .shed then
        [⟨.phantom, c.val, none, phantomNews .rampUp (s.channels[c]'c.2).request⟩] else [])
    retryChan_journal (fun s c d h => by rw [retryChan_get, if_neg h]) (bankChans_nodup b)
    (moveBank a b k s)
  refine ((settle_frame _ .journal (by decide)).trans hfold).trans ?_
  rw [flatMap_if, filter_bankChans, moveBank_journal, ← journalWith_append]
  rfl

/-- A shed before its report. -/
theorem shedBank_settled (b k s) :
    ∃ u, shedBank b k s = settle u ∧ SameExcept [.phantom, .journal, .channels] s u :=
  ⟨_, rfl, (moveBank_frame none b k s).seq (SameExcept.foldl shedChan_frame _ _)⟩

/-- A retry before its report. -/
theorem retryBank_settled (a b k s) :
    ∃ u, retryBank a b k s = settle u ∧ SameExcept [.phantom, .journal, .channels] s u :=
  ⟨_, rfl, (moveBank_frame a b k s).seq (SameExcept.foldl retryChan_frame _ _)⟩

/-! ## PHANTOM_RESET (R119) -/

theorem resetBank_of_held {p : Port} {b : BankId} {s : State}
    (h : (s.phantom.banks[b]'b.2).state = .holdoff ∨ (s.phantom.banks[b]'b.2).state = .lockedOut) :
    resetBank p b s = retryBank (some p) b { (s.phantom.banks[b]'b.2) with state := .retry, trips := 0, timer := 0 } s := by
  rw [resetBank]
  rcases h with h | h <;> simp only [h]

theorem resetBank_of_free {p : Port} {b : BankId} {s : State}
    (h : (s.phantom.banks[b]'b.2).state = .normal ∨ (s.phantom.banks[b]'b.2).state = .retry) : resetBank p b s = s := by
  rw [resetBank]
  rcases h with h | h <;> simp only [h]

/-- Settles O34. -/
theorem phantomResetRetriesAHeldBank : Obligations.PhantomResetRetriesAHeldBank := by
  intro p m b s hr hb h k
  obtain rfl : bankArg m = b := bankArg_eq hb
  have hanswer : answerPhantomReset p m (heard p s)
      = ⟨.done, [bankBits ((resetBank p (bankArg m) (heard p s)).phantom.banks[bankArg m]'(bankArg m).2)],
          resetBank p (bankArg m) (heard p s)⟩ := by
    refine (judged_executed ((firstFailing_phantomReset p m _).trans h)).trans ?_
    rw [bankWord_eq]
  refine ⟨fun hheld => ?_, fun hfree => ?_⟩
  · intro k'
    have hreset : resetBank p (bankArg m) (heard p s) = retryBank (some p) (bankArg m) k' (heard p s) :=
      resetBank_of_held hheld
    have hphantom : (retryBank (some p) (bankArg m) k' (heard p s)).phantom
        = { s.phantom with banks := vset s.phantom.banks (bankArg m) k' } := retryBank_phantom _ _ _ _
    have hbank : ((retryBank (some p) (bankArg m) k' (heard p s)).phantom.banks[bankArg m]'(bankArg m).2) = k' := by
      rw [hphantom]
      exact vset_get_self _ _ _
    rw [hreset, hbank] at hanswer
    obtain ⟨u, hu, hframe⟩ := retryBank_settled (some p) (bankArg m) k' (heard p s)
    have hchannels := retryBank_get (some p) (bankArg m) k' (heard p s)
    have hjournal := retryBank_journal (some p) (bankArg m) k' (heard p s)
    rw [hu] at hanswer hphantom hchannels hjournal
    obtain ⟨he, hanswered⟩ := exec_answered (changed := [.phantom, .journal, .channels, .faults]) (c := .phantomReset p m) hr
      (by rfl) hanswer ((hframe.mono (by simp)).trans ((settle_frame u).mono (by simp)))
    exact ⟨_, he, hanswered.mono (by simp), hphantom, hchannels, hjournal,
      onlyConditionsReported_replied (hframe .faults (by decide))⟩
  · rw [resetBank_of_free (s := heard p s) hfree] at hanswer
    obtain ⟨he, hanswered⟩ := exec_answered (c := .phantomReset p m) hr (by rfl) hanswer (.refl [] _)
    exact ⟨_, he, hanswered, rfl⟩

end Sys2Proof.Safety
end

section
/-! PROOFS. The phantom supply monitor at a boundary: readings, holdoffs and retry watches (R111 to R118). -/
namespace Sys2Proof.Safety

open Sys2Proof.Machine

/-! ## Reports that begin at a state with the same conditions -/

/-- A report of conditions is one too from a state with the same faults and the same conditions. -/
theorem OnlyConditionsReported.from_same {r s t : State} (h : OnlyConditionsReported s t) (hf : s.faults = r.faults)
    (hc : ∀ p, conditionsOf s p = conditionsOf r p) : OnlyConditionsReported r t := by
  obtain ⟨hports, hstretch, hlines⟩ := h
  simp only [reportable, hf, hc] at hports
  exact ⟨hports, by rw [hstretch, hf], hlines⟩

/-- The clock that a boundary's first unit of work leaves makes no condition another (R26). -/
theorem OnlyConditionsReported.from_work {s t : State} (h : OnlyConditionsReported (s.withClock (clockAtWork s)) t) :
    OnlyConditionsReported s t :=
  h.from_same rfl (conditionsOf_same (hsource := clockAtWork_source s))

set_option Elab.async false in
theorem tripLevel_eq (s : State) : tripLevel s.settings.trip = tripLevelInForce s := rfl

/-! ## Readings (R111, R114) -/

section
variable {b : BankId} {n : Nat} {s : State}

/-- A reading that trips no bank only becomes the last one. -/
theorem takeReading_calm (h : ¬ n < tripLevelInForce s ∨ (s.phantom.banks[b]'b.2).state = .holdoff
    ∨ (s.phantom.banks[b]'b.2).state = .lockedOut) : takeReading b n s
        = setBank b { (s.phantom.banks[b]'b.2) with last := n } s := by
  rw [takeReading, tripLevel_eq]
  by_cases hlow : n < tripLevelInForce s
  · rw [if_pos hlow]
    rcases h.resolve_left (not_not_intro hlow) with h | h <;> simp only [h]
  · rw [if_neg hlow]

variable (hlow : n < tripLevelInForce s)
include hlow

theorem takeReading_normal (h : (s.phantom.banks[b]'b.2).state = .normal) : takeReading b n s
    = holdTimer b (shedBank b { state := .holdoff, trips := 1, last := n, timer := 12000 } s) := by
  rw [takeReading, tripLevel_eq, if_pos hlow]
  simp only [h]

theorem takeReading_retry (h : (s.phantom.banks[b]'b.2).state = .retry) (htrips : (s.phantom.banks[b]'b.2).trips < 2) :
    takeReading b n s = holdTimer b
      (shedBank b { state := .holdoff, trips := (s.phantom.banks[b]'b.2).trips + 1, last := n, timer := 12000 } s) := by
  rw [takeReading, tripLevel_eq, if_pos hlow]
  simp only [h]
  rw [if_neg (by omega)]

theorem takeReading_third (h : (s.phantom.banks[b]'b.2).state = .retry) (htrips : 2 ≤ (s.phantom.banks[b]'b.2).trips) :
    takeReading b n s = holdTimer b
      (shedBank b { state := .lockedOut, trips := (s.phantom.banks[b]'b.2).trips + 1, last := n, timer := 0 } s) := by
  rw [takeReading, tripLevel_eq, if_pos hlow]
  simp only [h]
  rw [if_pos (by omega)]

end

theorem takeReading_scan {b : BankId} {n : Nat} (s : State) : (takeReading b n s).phantom.scan = s.phantom.scan := by
  have hshed (k : Bank) : (holdTimer b (shedBank b k s)).phantom.scan = s.phantom.scan :=
    (congrArg Phantom.scan (shedBank_phantom b k s) : (shedBank b k s).phantom.scan = _)
  unfold takeReading
  dsimp only
  split
  · split
    · exact hshed _
    · split <;> exact hshed _
    · rfl
    · rfl
  · rfl

/-- What a shed leaves in a bank's own block, its channels and the journal. -/
theorem shedBank_eff (b : BankId) (k : Bank) (s : State) :
    (shedBank b k s).phantom.banks = vset s.phantom.banks b k
    ∧ (∀ c : Chan, ((shedBank b k s).channels[c]'c.2)
        = if c.val / 8 = b.val then shedChannel (s.channels[c]'c.2) else (s.channels[c]'c.2))
    ∧ (shedBank b k s).journal = journalWith (shedNews b k s) s.journal
    ∧ OnlyConditionsReported s (shedBank b k s) := by
  refine ⟨congrArg Phantom.banks (shedBank_phantom b k s), shedBank_get b k s, shedBank_journal b k s, ?_⟩
  obtain ⟨u, hu, hframe⟩ := shedBank_settled b k s
  rw [hu]
  exact onlyConditionsReported_settle (hframe .faults (by decide))

/-- What a retry leaves in a bank's own block, its channels and the journal. -/
theorem retryBank_eff (a : Option Port) (b : BankId) (k : Bank) (s : State) :
    (retryBank a b k s).phantom.banks = vset s.phantom.banks b k
    ∧ (∀ c : Chan, ((retryBank a b k s).channels[c]'c.2)
        = if c.val / 8 = b.val then retriedChannel (s.channels[c]'c.2) else (s.channels[c]'c.2))
    ∧ (retryBank a b k s).journal = journalWith (retryNews a b k s) s.journal
    ∧ OnlyConditionsReported s (retryBank a b k s) := by
  refine ⟨congrArg Phantom.banks (retryBank_phantom a b k s), retryBank_get a b k s, retryBank_journal a b k s, ?_⟩
  obtain ⟨u, hu, hframe⟩ := retryBank_settled a b k s
  rw [hu]
  exact onlyConditionsReported_settle (hframe .faults (by decide))

/-- Settles O32. -/
theorem phantomReadingTripsTheBank : Obligations.PhantomReadingTripsTheBank := by
  intro b code s hnot hscan k low latched sheds
  subst hscan
  let b := s.phantom.scan
  let before := latchRail code (s.withClock (clockAtWork s))
  have hexec : exec (.phantomReading b code) s = .next (markTaken .reading (takeReading b code.toNat before)) :=
    exec_unit (happens := fun s => s.phantom.scan == b) (latch := latchRail code) rfl hnot (beq_self_eq_true b) rfl
  have hsheds (k' : Bank) (h : takeReading b code.toNat before = holdTimer b (shedBank b k' before)) :
      sheds k' (markTaken .reading (takeReading b code.toNat before)) := by
    obtain ⟨hbanks, hchannels, hjournal, hreported⟩ := shedBank_eff b k' before
    have hlatch : (shedBank b k' before).latch = before.latch := shedBank_frame _ _ _ .latch (by decide)
    rw [h]
    refine ⟨hbanks, hchannels, hjournal, ?_, ?_⟩
    · rw [markTaken_latch, holdTimer, markTaken_latch, hlatch]
      rfl
    · have hmarks : SameExcept [.latch] (shedBank b k' before) (markTaken .reading (holdTimer b (shedBank b k' before))) :=
        (markTaken_frame _ _).trans (markTaken_frame _ _)
      exact (hreported.of_same hmarks).from_same rfl (conditionsOf_same (hsource := clockAtWork_source s))
  have hlow : code.toNat < tripLevelInForce before ↔ low := Iff.rfl
  refine ⟨_, hexec, fun h => ?_, fun hl h => hsheds _ (takeReading_normal (hlow.mpr hl) h),
    fun hl h ht => hsheds _ (takeReading_retry (hlow.mpr hl) h ht),
    fun hl h ht => hsheds _ (takeReading_third (hlow.mpr hl) h ht), ?_, ?_, ?_⟩
  · rw [takeReading_calm (s := before) h]
    exact ⟨rfl, rfl, rfl, rfl, rfl⟩
  · exact takeReading_scan before
  · exact (takeReading_frame b code.toNat before) .clock (by decide)
  · exact ((withClock_frame _ s).mono (by simp)).trans (((withLatch_frame _ _).mono (by simp)).trans
      (((takeReading_frame b code.toNat before).mono (by decide)).trans ((markTaken_frame _ _).mono (by simp))))

/-! ## Timers (R113, R116, R117) -/

section
variable {b : BankId} {s : State}

theorem endHoldoff_recovered (h : tripLevelInForce s + 16 ≤ (s.phantom.banks[b]'b.2).last) :
    endHoldoff b s = retryBank none b { (s.phantom.banks[b]'b.2) with state := .retry, timer := 0 } s := by
  rw [endHoldoff, tripLevel_eq]
  exact if_pos h

theorem endHoldoff_restarts (h : (s.phantom.banks[b]'b.2).last < tripLevelInForce s + 16) :
    endHoldoff b s = setBank b { (s.phantom.banks[b]'b.2) with timer := 12000 } s := by
  rw [endHoldoff, tripLevel_eq]
  exact if_neg (Nat.not_le.mpr h)

theorem advanceBank_holdoff (h : (s.phantom.banks[b]'b.2).state = .holdoff) : advanceBank b s =
    if (s.phantom.banks[b]'b.2).timer ≤ 1 then endHoldoff b s
    else setBank b { (s.phantom.banks[b]'b.2) with timer := (s.phantom.banks[b]'b.2).timer - 1 } s := by
  rw [advanceBank]
  simp only [h]

set_option Elab.async false in
theorem advanceBank_retry (h : (s.phantom.banks[b]'b.2).state = .retry) : advanceBank b s =
    if 60000 ≤ (s.phantom.banks[b]'b.2).timer + 1 then endWatch b s
    else setBank b { (s.phantom.banks[b]'b.2) with timer := (s.phantom.banks[b]'b.2).timer + 1 } s := by
  rw [advanceBank]
  simp only [h]

theorem advanceBank_rests (h : (s.phantom.banks[b]'b.2).state = .normal ∨ (s.phantom.banks[b]'b.2).state = .lockedOut) :
    advanceBank b s = s := by
  rw [advanceBank]
  rcases h with h | h <;> simp only [h]

/-- A bank whose reading has been judged, or has none here, only has its timer advanced. -/
theorem bankWork_judged (hjudged : s.phantom.scan ≠ b ∨ .reading ∈ s.latch.taken) :
    bankWork b s = if fresh (.bank b) s then advanceBank b s else s := by
  have hnot : ¬ (s.phantom.scan == b && fresh .reading s) = true := by
    simpa [fresh, ← not_or, not_and_or, Classical.or_iff_not_imp_left] using hjudged
  rw [bankWork, if_neg hnot]

theorem bankWork_fresh (hjudged : s.phantom.scan ≠ b ∨ .reading ∈ s.latch.taken) (h : .bank b ∉ s.latch.taken) :
    bankWork b s = advanceBank b s := by
  rw [bankWork_judged hjudged, if_pos (fresh_of_notTaken h)]

theorem bankWork_taken (hjudged : s.phantom.scan ≠ b ∨ .reading ∈ s.latch.taken) (h : .bank b ∈ s.latch.taken) :
    bankWork b s = s := by
  rw [bankWork_judged hjudged, if_neg (by simpa [fresh] using h)]

/-- A reading that this boundary's work still has to judge comes before the timer (R113). -/
theorem bankWork_reading (hscan : s.phantom.scan = b) (h : .reading ∉ s.latch.taken) :
    bankWork b s = bankWork b (takeWork s .reading) := by
  have hfresh : fresh .reading s = true := fresh_of_notTaken h
  have htaken : takeWork s .reading = markTaken .reading (readingWork s) := if_pos hfresh
  have hmarked : .reading ∈ (takeWork s .reading).latch.taken := by
    rw [htaken, markTaken_latch]
    exact List.mem_cons_self
  have hreads : (s.phantom.scan == b && fresh .reading s) = true := by
    rw [hscan, hfresh, beq_self_eq_true]
    rfl
  rw [bankWork_judged (.inr hmarked), htaken]
  simp only [bankWork, hreads, if_true]

end

end Sys2Proof.Safety
end

section
/-! PROOFS. Holdoff ends, retry watches and the banks' timers (R113, R116, R117). -/
namespace Sys2Proof.Safety

open Sys2Proof.Machine

theorem readingJudged_of {b : BankId} {s : State} (hjudged : s.phantom.scan ≠ b ∨ .reading ∈ s.latch.taken) :
    readingJudged b s = true := by
  simpa [readingJudged, fresh] using hjudged

section
variable {b : BankId} {s : State} (hnot : NotYetTaken (.bank b) s) (hjudged : s.phantom.scan ≠ b ∨ .reading ∈ s.latch.taken)
include hnot hjudged

/-- A bank's unit of work, whose reading has been judged. -/
theorem exec_bankWork {c : Instr} {happens : State → Bool} (hexec : exec c s = whileRunning s (oneUnit (.bank b) happens id))
    (hhappens : happens s = true) :
    let t := markTaken (.bank b) (advanceBank b (s.withClock (clockAtWork s)))
    exec c s = .next t ∧ t.clock = clockAtWork s ∧ Marked (.bank b) s t
      ∧ SameExcept [.phantom, .channels, .journal, .latch, .clock, .faults] s t := by
  have hwork : workEffect (.bank b) (s.withClock (clockAtWork s)) = advanceBank b (s.withClock (clockAtWork s)) :=
    bankWork_fresh (s := s.withClock (clockAtWork s)) hjudged hnot.2
  obtain ⟨he, hmarked, hsame⟩ := exec_unit_same hexec hnot hhappens (changed := bankBlocks)
    (by rw [hwork]; exact advanceBank_frame _ _)
  rw [hwork] at he hmarked hsame
  exact ⟨he, advanceBank_frame b (s.withClock (clockAtWork s)) .clock (by decide), hmarked, hsame.mono (by simp)⟩

end

/-- HOLDOFF_END (R116). -/
theorem holdoffEnd_taken (b : BankId) (s : State) (hnot : NotYetTaken (.bank b) s)
    (hjudged : s.phantom.scan ≠ b ∨ .reading ∈ s.latch.taken) (hstate : (s.phantom.banks[b]'b.2).state = .holdoff)
    (htimer : (s.phantom.banks[b]'b.2).timer = 1) :
    let k := (s.phantom.banks[b]'b.2)
    ∃ t, exec (.holdoffEnd b) s = .next t
      ∧ (tripLevelInForce s + 16 ≤ k.last →
          let k' := { k with state := .retry, timer := 0 }
          t.phantom.banks = vset s.phantom.banks b k'
          ∧ (∀ c : Chan, (t.channels[c]'c.2) = if c.val / 8
              = b.val then retriedChannel (s.channels[c]'c.2) else (s.channels[c]'c.2))
          ∧ t.journal = journalWith (retryNews none b k' s) s.journal ∧ OnlyConditionsReported s t)
      ∧ (k.last < tripLevelInForce s + 16 →
          t.phantom.banks = vset s.phantom.banks b { k with timer := 12000 }
          ∧ t.channels = s.channels ∧ t.journal = s.journal ∧ t.faults = s.faults)
      ∧ t.phantom.scan = s.phantom.scan ∧ t.clock = clockAtWork s ∧ Marked (.bank b) s t
      ∧ SameExcept [.phantom, .channels, .journal, .latch, .clock, .faults] s t := by
  intro k
  have hends : holdoffEnds b s = true := by
    rw [holdoffEnds, readingJudged_of hjudged, hstate, htimer]
    rfl
  let before := s.withClock (clockAtWork s)
  have heffect : advanceBank b before = endHoldoff b before :=
    (advanceBank_holdoff (s := before) hstate).trans (if_pos (Nat.le_of_eq htimer))
  obtain ⟨he, hclock, hmarked, hsame⟩ := exec_bankWork hnot hjudged (c := .holdoffEnd b) (by rfl) hends
  rw [heffect] at he hclock hmarked hsame
  refine ⟨_, he, fun h => ?_, fun h => ?_, ?_, hclock, hmarked, hsame⟩
  · intro k'
    rw [endHoldoff_recovered (s := before) h]
    obtain ⟨hbanks, hchannels, hjournal, hreported⟩ := retryBank_eff none b k' before
    exact ⟨hbanks, hchannels, hjournal, (hreported.of_same (markTaken_frame (.bank b) _)).from_work⟩
  · rw [endHoldoff_restarts (s := before) h]
    exact ⟨rfl, rfl, rfl, rfl⟩
  · rcases Nat.lt_or_ge k.last (tripLevelInForce s + 16) with h | h
    · rw [endHoldoff_restarts (s := before) h]
      rfl
    · rw [endHoldoff_recovered (s := before) h]
      exact (congrArg Phantom.scan (retryBank_phantom none b _ before) : (retryBank none b _ before).phantom.scan = _)

/-- RETRY_WATCH_END (R117). -/
theorem retryWatchEnd_taken (b : BankId) (s : State) (hnot : NotYetTaken (.bank b) s)
    (hjudged : s.phantom.scan ≠ b ∨ .reading ∈ s.latch.taken) (hstate : (s.phantom.banks[b]'b.2).state = .retry)
    (htimer : (s.phantom.banks[b]'b.2).timer = 59999) :
    let k' : Bank := { (s.phantom.banks[b]'b.2) with state := .normal, trips := 0, timer := 0 }
    ∃ t, exec (.retryWatchEnd b) s = .next t
      ∧ t.phantom.banks = vset s.phantom.banks b k'
      ∧ t.journal = journalWith [⟨.bank, b.val, none, bankNews k'⟩] s.journal
      ∧ t.phantom.scan = s.phantom.scan ∧ t.clock = clockAtWork s ∧ Marked (.bank b) s t
      ∧ OnlyConditionsReported s t
      ∧ SameExcept [.phantom, .journal, .latch, .clock, .faults] s t := by
  intro k'
  have hends : watchEnds b s = true := by
    rw [watchEnds, readingJudged_of hjudged, hstate, htimer]
    rfl
  let before := s.withClock (clockAtWork s)
  have heffect : advanceBank b before = settle (moveBank none b k' before) :=
    (advanceBank_retry (s := before) hstate).trans
        (if_pos (by rw [show (before.phantom.banks[b]'b.2).timer = _ from htimer]))
  obtain ⟨he, hclock, hmarked, -⟩ := exec_bankWork hnot hjudged (c := .retryWatchEnd b) (by rfl) hends
  rw [heffect] at he hclock hmarked
  have hframe := moveBank_frame none b k' before
  have hreported : OnlyConditionsReported before (settle (moveBank none b k' before)) :=
    onlyConditionsReported_settle (hframe .faults (by decide))
  refine ⟨_, he, rfl, moveBank_journal _ _ _ _, rfl, hclock, hmarked,
    (hreported.of_same (markTaken_frame (.bank b) _)).from_work, ?_⟩
  exact ((withClock_frame _ s).mono (by simp)).trans ((hframe.mono (by simp)).trans
    (((settle_frame _).mono (by simp)).trans ((markTaken_frame _ _).mono (by simp))))

/-- Settles O33. -/
theorem holdoffAndRetryWatchEnd : Obligations.HoldoffAndRetryWatchEnd := by
  refine ⟨fun b s hnot hjudged => ⟨holdoffEnd_taken b s hnot hjudged, retryWatchEnd_taken b s hnot hjudged⟩, fun b s => ?_⟩
  intro k standsAt
  refine ⟨bankWork_reading, fun hjudged => ⟨bankWork_taken hjudged, fun hfresh hstate hlt => ?_,
    fun hfresh hstate hlt => ?_, fun hstate => ?_⟩⟩
  · refine (bankWork_fresh hjudged hfresh).trans ((advanceBank_holdoff hstate).trans ?_)
    exact if_neg (by change ¬ k.timer ≤ 1; omega)
  · refine (bankWork_fresh hjudged hfresh).trans ((advanceBank_retry hstate).trans ?_)
    exact if_neg (by change ¬ 60000 ≤ k.timer + 1; omega)
  · refine (bankWork_judged hjudged).trans ?_
    rw [advanceBank_rests hstate, ite_self]

end Sys2Proof.Safety
end

section
/-! PROOFS. SET_OUTPUT (R148 to R151). -/
namespace Sys2Proof.Safety

open Sys2Proof.Machine

/-! ## The placement (R149) -/

/-- An output placed afresh: SILENT with no primary, PRIMARY with an available one, otherwise as its action says. -/
theorem placeOutput_eq (s : State) (o : Output) :
    let up := available s o.primary
    let failed := o.primary.isSome && !up && o.action != .hold
    let sel : Selection :=
      if o.primary = none then .silent
      else if up = true ∨ o.action = .hold then .primary
      else if o.action = .backup ∧ available s o.backup = true then .backup else .silent
    placeOutput s o = { o with sel := sel, failed := failed, holdoff := if failed then 12000 else 0 } := by
  intro up failed sel
  rw [placeOutput]
  cases hprimary : o.primary with
  | none => simp [sel, failed, hprimary]
  | some src =>
    have hsel : sel = if up = true ∨ o.action = .hold then .primary
        else if o.action = .backup ∧ available s o.backup = true then .backup else .silent := by
      simp only [sel, hprimary, reduceCtorEq, if_false]
    have hfailed : failed = (!up && o.action != .hold) := by simp only [failed, hprimary, Option.isSome_some, Bool.true_and]
    have hup : available s (some src) = up := by rw [← hprimary]
    rw [hsel, hfailed]
    clear_value up
    simp only [hup]
    cases up
    · simp only [losePrimary, Bool.false_eq_true, if_false, false_or]
      cases haction : o.action
      · simp
      · cases hbackup : available s o.backup <;> simp
      · simp
    · simp

/-! ## The setting's bits (chapter 12) -/

/-- A source as its seven bits name it: the present flag, the port and the return channel. -/
def sourceOfBits (present : Bool) (port : BitVec 2) (channel : BitVec 4) : Option Source :=
  if present then some ⟨if port = 0 then .p0 else if port = 1 then .p1 else .p2, channel.toFin⟩ else none

/-- The seven bits of a source in a setting (log entry 3 for those of NONE). -/
def sourceBits (lo : Nat) (asked : BitVec 16) : Option Source → BitVec 7
  | none => Config.absentSourceChannel (asked.extractLsb' (lo + 3) 4) ++ 3#2 ++ 0#1
  | some src => BitVec.ofNat 4 src.ch.val ++ BitVec.ofNat 2 (portNo src.port) ++ 1#1

set_option Elab.async false in
theorem bitsAt_toNat (lo n : Nat) (v : BitVec 16) : bitsAt (lo + n) (lo + 1) v.toNat = (v.extractLsb' (lo + 1) n).toNat := by
  have hwidth : lo + n + 1 - (lo + 1) = n := by omega
  rw [extract_toNat, bitsAt, hwidth]

theorem channelBits_toNat (lo : Nat) (v : BitVec 16) : bitsAt (lo + 6) (lo + 3) v.toNat = (v.extractLsb' (lo + 3) 4).toNat :=
  bitsAt_toNat (lo + 2) 4 v

theorem sourceField_eq (lo : Nat) (asked : BitVec 16) (src : Option Source) :
    sourceField lo asked src = (sourceBits lo asked src).toNat * 2 ^ lo := by
  have hport (n : Nat) : fieldAt (lo + 2) (lo + 1) n = (BitVec.ofNat 2 n).toNat * 2 ^ (lo + 1) := by
    rw [fieldAt, show lo + 2 + 1 - (lo + 1) = 2 by omega, BitVec.toNat_ofNat]
  have hchannel (n : Nat) : fieldAt (lo + 6) (lo + 3) n = (BitVec.ofNat 4 n).toNat * 2 ^ (lo + 3) := by
    rw [fieldAt, show lo + 6 + 1 - (lo + 3) = 4 by omega, BitVec.toNat_ofNat]
  cases src with
  | none =>
    simp only [sourceField, sourceBits, hport, hchannel, placed_append, placed_zero, channelBits_toNat, BitVec.ofNat_toNat,
      BitVec.setWidth_eq, partyCode, Nat.zero_add]
  | some src =>
    simp only [sourceField, sourceBits, hport, hchannel, placed_append, flagAt_eq, Nat.add_assoc]
    rfl

theorem outputSetting_eq (o : Output) : outputSetting o
    = BitVec.ofNat 2 (actionNo o.action) ++ sourceBits 7 o.asked o.backup ++ sourceBits 0 o.asked o.primary := by
  refine ofNat_eq_of_placed ?_
  simp only [sourceField_eq, placed_append, fieldAt_eq, Nat.add_assoc, -Nat.reduceAdd]

theorem append_three_bit (a : BitVec 2) (b c : BitVec 7) (j : Nat) : (a ++ b ++ c).getLsbD j
    = if j < 7 then c.getLsbD j else if j - 7 < 7 then b.getLsbD (j - 7) else a.getLsbD (j - 7 - 7) := by
  rw [BitVec.getLsbD_append, BitVec.getLsbD_append]

section
variable {lo : Nat} {v : BitVec 16}

/-- A source that passed its test is the one its bits name (R148). -/
theorem sourceAt_eq (h : badSource lo v.toNat = false) :
    sourceAt lo v.toNat = sourceOfBits (v.getLsbD lo) (v.extractLsb' (lo + 1) 2) (v.extractLsb' (lo + 3) 4) := by
  have hport : bitsAt (lo + 2) (lo + 1) v.toNat = (v.extractLsb' (lo + 1) 2).toNat := bitsAt_toNat lo 2 v
  have hchannel := channelBits_toNat lo v
  simp only [badSource, bitAt, hport] at h
  simp only [sourceAt, bitAt, sourceOfBits, BitVec.getLsbD] at h ⊢
  by_cases hpresent : v.toNat.testBit lo = true
  · simp only [hpresent, Bool.true_and, if_true] at h ⊢
    have hcases : ∀ q : BitVec 2, (q.toNat == 3) = false →
        portOf q.toNat = some (if q = 0 then .p0 else if q = 1 then .p1 else .p2) := by decide
    simp only [hport, hcases _ h]
    exact congrArg some (congrArg (Source.mk _) (Fin.ext hchannel))
  · simp only [hpresent, Bool.false_eq_true, if_false]

/-- The bits of a present source are those of the setting that named it. -/
theorem sourceBits_present (asked : BitVec 16) (h : badSource lo v.toNat = false) (hpresent : v.getLsbD lo = true) :
    sourceBits lo asked (sourceAt lo v.toNat) = v.extractLsb' lo 7 := by
  have hport : ∀ q : BitVec 2, (q.toNat == 3) = false →
      BitVec.ofNat 2 (portNo (if q = 0 then .p0 else if q = 1 then .p1 else .p2)) = q := by decide
  have hgood : ((v.extractLsb' (lo + 1) 2).toNat == 3) = false := by
    rw [← bitsAt_toNat lo 2 v]
    simpa only [badSource, bitAt, show v.toNat.testBit lo = true from hpresent, Bool.true_and] using h
  rw [sourceAt_eq h, hpresent]
  apply BitVec.eq_of_toNat_eq
  simp only [sourceOfBits, if_true, sourceBits, hport _ hgood, toNat_append_add, BitVec.toNat_ofNat, extract_toNat,
    Nat.pow_add, ← Nat.div_div_eq_div_mul]
  have hbit : v.toNat / 2 ^ lo % 2 = 1 := by
    have hset : v.toNat.testBit lo = true := hpresent
    rwa [Nat.testBit_eq_decide_div_mod_eq, decide_eq_true_eq] at hset
  have hch : (v.extractLsb' (lo + 3) 4).toFin.val = v.toNat / 2 ^ lo / 8 % 16 := by
    change (v.extractLsb' (lo + 3) 4).toNat = _
    rw [extract_toNat, Nat.pow_add, ← Nat.div_div_eq_div_mul]
    rfl
  rw [hch]
  omega

/-- The port bits of a source that is NONE are 3 (R189). -/
theorem sourceBits_absent (asked : BitVec 16) (hpresent : v.getLsbD lo = false) :
    (sourceBits lo asked (sourceAt lo v.toNat)).getLsbD 0 = false
      ∧ (sourceBits lo asked (sourceAt lo v.toNat)).extractLsb' 1 2 = 3 := by
  have hnone : sourceAt lo v.toNat = none := by
    simp only [sourceAt, bitAt, show v.toNat.testBit lo = false from hpresent, Bool.false_eq_true, if_false]
  rw [hnone, sourceBits]
  generalize Config.absentSourceChannel _ = free
  revert free
  decide

theorem actionOf_eq (v : BitVec 16) : actionOf v.toNat
    = if v.extractLsb' 14 2 = 0 then .mute else if v.extractLsb' 14 2 = 1 then .backup else .hold := by
  have hbits : bitsAt 15 14 v.toNat = (v.extractLsb' 14 2).toNat := bitsAt_toNat 13 2 v
  have hcases : ∀ a : BitVec 2, (match a.toNat with | 0 => FailAction.mute | 1 => .backup | _ => .hold)
      = if a = 0 then .mute else if a = 1 then .backup else .hold := by decide
  rw [actionOf, hbits]
  exact hcases _

theorem actionNo_actionOf (h : (bitsAt 15 14 v.toNat == 3) = false) :
    BitVec.ofNat 2 (actionNo (actionOf v.toNat)) = v.extractLsb' 14 2 := by
  have hbits : bitsAt 15 14 v.toNat = (v.extractLsb' 14 2).toNat := bitsAt_toNat 13 2 v
  have hcases : ∀ a : BitVec 2, (a.toNat == 3) = false →
      BitVec.ofNat 2 (actionNo (if a = 0 then .mute else if a = 1 then .backup else .hold)) = a := by decide
  rw [actionOf_eq]
  exact hcases _ (by rwa [hbits] at h)

end

/-! ## The answer (R150, R151) -/

set_option Elab.async false in
theorem statusWord_eq (s : State) (o : Output) (gen : BitVec 32) :
    payload (statusFields 0 s o ++ [fieldAt 20 5 (gen.toNat % 65536)])
      = 0#9 ++ gen.setWidth 16 ++ BitVec.ofBool (available s o.backup) ++ BitVec.ofBool (available s o.primary)
        ++ BitVec.ofBool o.failed ++ BitVec.ofNat 2 (selectionNo o.sel) := by
  refine ofNat_eq_of_placed ?_
  simp only [statusFields, List.cons_append, List.nil_append, placed_append, placed_zero,
    fieldAt_low (hi := 20) (lo := 5) _ rfl, fieldAt_eq, flagAt_eq, sum_field_cons, sum_field_nil, BitVec.ofNat_toNat,
    -Nat.reduceAdd]

/-- What SET_OUTPUT's tests have let through (R148). -/
theorem badSource_of_refuseOutput {p : Port} {m : Msg} {s : State} (h : refuseOutput p m s = none) :
    badSource 0 (value16 m).toNat = false ∧ badSource 7 (value16 m).toNat = false
      ∧ (bitsAt 15 14 (value16 m).toNat == 3) = false := by
  rw [← firstFailing_output] at h
  simp only [firstFailing_cons, firstFailing_nil] at h
  split at h
  · cases h
  · split at h
    · cases h
    · split at h
      · cases h
      · next hgood => simpa only [Bool.or_eq_true, not_or, Bool.not_eq_true, and_assoc] using hgood

set_option Elab.async false in
/-- The bits of the setting that SET_OUTPUT stores are those it was asked for, but for the port and the channel of a source
that is NONE. -/
theorem outputSetting_bits {v : BitVec 16} {o : Output} (hprimary : o.primary = sourceAt 0 v.toNat)
    (hbackup : o.backup = sourceAt 7 v.toNat) (haction : o.action = actionOf v.toNat)
    (hgood : badSource 0 v.toNat = false) (hgood' : badSource 7 v.toNat = false)
        (hact : (bitsAt 15 14 v.toNat == 3) = false) :
    (∀ j, j = 0 ∨ j = 7 ∨ j = 14 ∨ j = 15 ∨ (v.getLsbD 0 = true ∧ j < 7) ∨ (v.getLsbD 7 = true ∧ 7 < j ∧ j < 14) →
        (outputSetting o).getLsbD j = v.getLsbD j)
    ∧ (v.getLsbD 0 = false → (outputSetting o).extractLsb' 1 2 = 3)
    ∧ (v.getLsbD 7 = false → (outputSetting o).extractLsb' 8 2 = 3) := by
  have hfirst (j : Nat) (hj : j < 7) (hbit : j = 0 ∨ v.getLsbD 0 = true) :
      (sourceBits 0 o.asked (sourceAt 0 v.toNat)).getLsbD j = v.getLsbD j := by
    by_cases hpresent : v.getLsbD 0 = true
    · rw [sourceBits_present _ hgood hpresent, BitVec.getLsbD_extractLsb', Nat.zero_add]
      simp [hj]
    · obtain rfl := hbit.resolve_right hpresent
      rw [Bool.not_eq_true] at hpresent
      rw [(sourceBits_absent _ hpresent).1, hpresent]
  have hsecond (j : Nat) (hj : j < 7) (hbit : j = 0 ∨ v.getLsbD 7 = true) :
      (sourceBits 7 o.asked (sourceAt 7 v.toNat)).getLsbD j = v.getLsbD (7 + j) := by
    by_cases hpresent : v.getLsbD 7 = true
    · rw [sourceBits_present _ hgood' hpresent, BitVec.getLsbD_extractLsb']
      simp [hj]
    · obtain rfl := hbit.resolve_right hpresent
      rw [Bool.not_eq_true] at hpresent
      rw [(sourceBits_absent _ hpresent).1, hpresent]
  rw [outputSetting_eq, hprimary, hbackup, haction, actionNo_actionOf hact]
  refine ⟨fun j hj => ?_, fun habsent => ?_, fun habsent => ?_⟩
  · rw [append_three_bit]
    rcases hj with rfl | rfl | rfl | rfl | ⟨hset, hlt⟩ | ⟨hset, hgt, hlt⟩
    · exact hfirst 0 (by decide) (.inl rfl)
    · exact hsecond 0 (by decide) (.inl rfl)
    · rw [if_neg (by decide), if_neg (by decide), BitVec.getLsbD_extractLsb']
      rfl
    · rw [if_neg (by decide), if_neg (by decide), BitVec.getLsbD_extractLsb']
      rfl
    · rw [if_pos hlt]
      exact hfirst j hlt (.inr hset)
    · rw [if_neg (by omega), if_pos (by omega), hsecond (j - 7) (by omega) (.inr hset), Nat.add_sub_cancel' (by omega)]
  · rw [← (sourceBits_absent o.asked habsent).2]
    ext i hi
    rw [BitVec.getElem_extractLsb', BitVec.getElem_extractLsb', append_three_bit, if_pos (by omega)]
  · rw [← (sourceBits_absent o.asked habsent).2]
    ext i hi
    rw [BitVec.getElem_extractLsb', BitVec.getElem_extractLsb', append_three_bit, if_neg (by omega), if_pos (by omega)]
    exact congrArg _ (by omega)

/-- Settles O41. -/
theorem setOutputPlacesTheOutputAfresh : Obligations.SetOutputPlacesTheOutputAfresh := by
  intro p m i s hr hi h v source primary backup action up failed sel o o' body
  obtain rfl : outArg m = i := outArg_eq hi
  obtain ⟨hgood, hgood', hact⟩ := badSource_of_refuseOutput (s := heard p s) h
  have hv : value16 m = v := value16_eq m
  rw [hv] at hgood hgood' hact
  have hprimary : sourceAt 0 v.toNat = primary := sourceAt_eq hgood
  have hbackup : sourceAt 7 v.toNat = backup := sourceAt_eq hgood'
  have haction : actionOf v.toNat = action := actionOf_eq v
  have hplaced : placeOutput (heard p s) { o with primary := primary, backup := backup, action := action, asked :=
      v } = o' := by
    rw [placeOutput_eq]
    simp only [available_heard]
    rfl
  let after := setOutputRec (outArg m) o' (heard p s)
  have hanswer : answerSetOutput p m (heard p s)
      = ⟨.done, [body], appendEntry .output (outArg m).val (some p) (outputSetting o') (settle after)⟩ := by
    refine (judged_executed ((firstFailing_output p m _).trans h)).trans ?_
    rw [hv, hprimary, hbackup, haction]
    dsimp only
    rw [show ((heard p s).outputs[outArg m]'(outArg m).2) = o from rfl, hplaced]
    refine congrArg (fun word => Answer.mk .done [word] _) ?_
    refine (statusWord_eq (heard p s) o' (s.journal.gen + 1)).trans ?_
    rw [available_heard, available_heard]
  have hframe : SameExcept [.outputs] (heard p s) after := setOutputRec_frame _ _ _
  have houtputs : after.outputs = vset s.outputs (outArg m) o' := rfl
  obtain ⟨hbits, hnone, hnone'⟩ :=
    outputSetting_bits (v := v) (o := o') hprimary.symm hbackup.symm haction.symm hgood hgood' hact
  have hreported : OnlyConditionsReported s (settle after) := onlyConditionsReported_heard (hframe .faults (by decide))
  have hjournal : (settle after).journal = s.journal :=
    (settle_frame after .journal (by decide)).trans (hframe .journal (by decide))
  generalize outputSetting o' = setting at *
  clear_value after body
  obtain ⟨he, hanswered⟩ := exec_answered (changed := [.outputs, .faults, .journal]) (c := .setOutput p m) hr
      (by rfl) hanswer
    ((hframe.seq (r := [.outputs, .faults]) (settle_frame _)).seq (appendEntry_frame _ _ _ _ _))
  refine ⟨_, setting, he, hanswered.mono (by simp), houtputs, ?_, hbits, hnone, hnone', ?_⟩
  · rw [← hjournal]
    exact appendEntry_journal _ _ _ _ _
  · exact (hreported.of_same (appendEntry_frame _ _ _ _ _)).of_same (replied_frame _ _ _)

end Sys2Proof.Safety
end

section
/-! PROOFS. Presence timers and expiries (R55, R57 to R61, R174, R177). -/
namespace Sys2Proof.Safety

open Sys2Proof.Machine

/-! ## What an expiry leaves (R57, R58) -/

/-- An expiry before its report. -/
theorem expire_settled (p : Port) (s : State) :
    ∃ u, expire p s = settle u ∧ SameExcept [.presence, .owners, .journal, .talkMask, .calls] s u := by
  refine ⟨_, rfl, ?_⟩
  refine SameExcept.seq (l := [.presence, .owners, .journal, .talkMask]) ?_ (clearCallsAt_frame _ _)
  refine SameExcept.seq (l := [.presence, .owners, .journal]) ?_ (withTalkMask_frame _ _)
  split
  · exact (setPresence_frame _ _ _).seq (releaseAll_frame _ _)
  · exact (setPresence_frame _ _ _).mono (by decide)

theorem expire_owners (p : Port) (s : State) :
    let absent := setPresence p { present := false, running := false, elapsed := 0 } s
    let released := match s.settings.policy.get p with
      | .release => releaseAll p absent
      | .report => absent
    (expire p s).owners = released.owners ∧ (expire p s).journal = released.journal := by
  intro absent released
  have hframe : SameExcept [.talkMask, .calls, .faults] released (expire p s) :=
    SameExcept.seq (l := [.talkMask, .calls]) ((withTalkMask_frame _ _).seq (clearCallsAt_frame _ _)) (settle_frame _)
  exact ⟨hframe .owners (by decide), hframe .journal (by decide)⟩

/-- Under REPORT a port that expires keeps what it owns (R59). -/
theorem expire_report {p : Port} {s : State} (h : s.settings.policy.get p = .report) :
    (expire p s).owners = s.owners ∧ (expire p s).journal = s.journal := by
  have hreleased := expire_owners p s
  rw [h] at hreleased
  exact hreleased

/-- Under RELEASE a port that expires has released everything (R58). -/
theorem expire_release {p : Port} {s : State} (h : s.settings.policy.get p = .release) :
    (expire p s).owners = (releaseAll p (setPresence p { present := false, running := false, elapsed := 0 } s)).owners
    ∧ (expire p s).journal
        = (releaseAll p (setPresence p { present := false, running := false, elapsed := 0 } s)).journal := by
  have hreleased := expire_owners p s
  rw [h] at hreleased
  exact hreleased

/-- Everything a port owns released: channels before outputs, in ascending index, by STAGE (R58). -/
theorem releaseAll_eff (p : Port) (s : State) :
    let owns (c : Chan) : Bool := (s.owners.chan[c]'c.2) == some p
    let ownsOut (o : OutId) : Bool := (s.owners.out[o]'o.2) == some p
    (∀ c : Chan, (releaseAll p s).owners.chan[c] = if owns c = true then none else s.owners.chan[c])
    ∧ (∀ o : OutId, (releaseAll p s).owners.out[o] = if ownsOut o = true then none else s.owners.out[o])
    ∧ (releaseAll p s).journal = journalWith
        ((((List.finRange 48).filter owns).map fun c => ⟨.ownerCh, c.val, none, 3⟩)
          ++ ((List.finRange 16).filter ownsOut).map fun o => ⟨.ownerOut, o.val, none, 3⟩) s.journal := by
  intro owns ownsOut
  obtain ⟨u, hu⟩ : ∃ u, (List.finRange 48).foldl (freeChan none p) s = u := ⟨_, rfl⟩
  have hall : releaseAll p s = (List.finRange 16).foldl (freeOut none p) u := by
    rw [← hu]
    rfl
  obtain ⟨hchan, hout, hjournal⟩ := freeChans_eff none p s (List.nodup_finRange 48)
  obtain ⟨hout', hchan', hjournal'⟩ := freeOuts_eff none p u (List.nodup_finRange 16)
  rw [hu] at hchan hout hjournal
  rw [← hall, hout] at hout'
  rw [← hall] at hchan' hjournal'
  rw [hout, hjournal] at hjournal'
  refine ⟨fun c => ?_, fun o => ?_, by rw [hjournal', journalWith_append]⟩
  · rw [hchan', hchan c]
    exact if_congr (and_iff_right (List.mem_finRange c)) rfl rfl
  · rw [hout' o]
    exact if_congr (and_iff_right (List.mem_finRange o)) rfl rfl

/-! ## The count (R55, R174) -/

/-- The calls once those that the presence work ends are clear (R174). -/
def callsEnded (p : Port) (s : State) : PerPort (Vector Call 4) :=
  s.calls.set p (Vector.ofFn fun k : KeyId =>
    if ((s.calls.get p)[k]'k.2).ending then { pending := false, acked := false } else ((s.calls.get p)[k]'k.2))

/-- Presence once a running timer has counted one boundary. -/
def countedOn (p : Port) (s : State) : PerPort Presence :=
  s.presence.set p { s.presence.get p with elapsed := (s.presence.get p).elapsed + 1, held := none }

/-- One block replaced leaves the others. -/
theorem withPresence_frame (v) (s : State) : SameExcept [.presence] s (s.withPresence v) := by
  intro b hb
  cases b <;> first | rfl | simp at hb

theorem endCalls_eq (p : Port) (s : State) : endCalls p s = s.withCalls (callsEnded p s) := rfl

theorem countPresence_timesOut {p : Port} {s : State} (h : TimesOut p s) :
    countPresence p s = expire p (endCalls p s) := by
  have hnow : expiresNow (endCalls p s) p = true := expiresNow_iff (s := endCalls p s).mpr h
  rw [countPresence]
  exact if_pos hnow

theorem countPresence_stays {p : Port} {s : State} (h : ¬ TimesOut p s) : countPresence p s =
    if (s.presence.get p).running = true then (s.withCalls (callsEnded p s)).withPresence (countedOn p s)
    else s.withCalls (callsEnded p s) := by
  have hnow : ¬ expiresNow (endCalls p s) p = true := fun hc => h (expiresNow_iff (s := endCalls p s).mp hc)
  rw [countPresence]
  exact if_neg hnow

/-- An expiry at a boundary (R57 to R59). -/
theorem presenceExpiry_taken (p : Port) (s : State) (hnot : NotYetTaken (.presence p) s) (h : TimesOut p s) :
    let owns (c : Chan) : Bool := s.owners.chan[c] == some p
    let ownsOut (o : OutId) : Bool := s.owners.out[o] == some p
    ∃ t, exec (.presenceExpiry p) s = .next t
      ∧ t.presence = s.presence.set p { present := false, running := false, elapsed := 0 }
      ∧ t.talkMask = s.talkMask.set p 0
      ∧ t.calls = s.calls.set p (Vector.replicate 4 { pending := false, acked := false })
      ∧ (s.settings.policy.get p = .report → t.owners = s.owners ∧ t.journal = s.journal)
      ∧ (s.settings.policy.get p = .release →
          (∀ c : Chan, t.owners.chan[c] = if owns c then none else s.owners.chan[c])
          ∧ (∀ o : OutId, t.owners.out[o] = if ownsOut o then none else s.owners.out[o])
          ∧ t.journal = journalWith
              ((((List.finRange 48).filter owns).map fun c => ⟨.ownerCh, c.val, none, 3⟩)
                ++ ((List.finRange 16).filter ownsOut).map fun o => ⟨.ownerOut, o.val, none, 3⟩) s.journal)
      ∧ t.clock = clockAtWork s ∧ Marked (.presence p) s t ∧ OnlyConditionsReported s t
      ∧ SameExcept [.presence, .talkMask, .calls, .owners, .journal, .clock, .latch, .faults] s t := by
  intro owns ownsOut
  let before := s.withClock (clockAtWork s)
  let ended := endCalls p before
  have hwork : workEffect (.presence p) before = expire p ended := countPresence_timesOut (s := before) h
  have hhappens : (expiresNow s p || callsEnding s p) = true := by rw [expiresNow_iff.mpr h, Bool.true_or]
  obtain ⟨he, hmarked, hsame⟩ := exec_unit_same (c := .presenceExpiry p) (w := .presence p) (by rfl) hnot hhappens
    (changed := expiryBlocks) (countPresence_frame p before)
  rw [hwork] at he hmarked hsame
  refine ⟨_, he, expire_presence p ended, expire_talkMask p ended, ?_, expire_report (s := ended), fun hpolicy => ?_, ?_,
    hmarked, ?_, hsame.mono (by simp)⟩
  · refine (expire_calls p ended).trans ?_
    have hended : ended.calls = callsEnded p s := congrArg State.calls (endCalls_eq p before)
    rw [hended, callsEnded]
    generalize (Vector.ofFn _ : Vector Call 4) = ending
    exact PerPort.set_set_self before.calls p ending _
  · obtain ⟨howners, hjournal⟩ := expire_release (p := p) (s := ended) hpolicy
    obtain ⟨hchan, hout, hnews⟩ := releaseAll_eff p
        (setPresence p { present := false, running := false, elapsed := 0 } ended)
    rw [← howners] at hchan hout
    rw [← hjournal] at hnews
    exact ⟨hchan, hout, hnews⟩
  · exact expire_frame p ended .clock (by decide)
  · obtain ⟨u, hu, hframe⟩ := expire_settled p ended
    rw [hu]
    have hreported : OnlyConditionsReported before (settle u) := onlyConditionsReported_settle (hframe .faults (by decide))
    exact (hreported.of_same (markTaken_frame _ _)).from_work

set_option Elab.async false in
/-- Settles O24. -/
theorem presenceExpiryAppliesThePolicy : Obligations.PresenceExpiryAppliesThePolicy := by
  refine ⟨presenceExpiry_taken, fun p s => ?_⟩
  intro r calls counted
  refine ⟨fun hrunning hlt => ?_, fun hstopped => ?_, fun hnot hstays hending => ?_⟩
  · have hstays : ¬ TimesOut p s := fun h => absurd h.2 (Nat.not_le.mpr hlt)
    exact (countPresence_stays hstays).trans (if_pos hrunning)
  · have hstays : ¬ TimesOut p s := fun h => Bool.false_ne_true (hstopped.symm.trans h.1)
    exact (countPresence_stays hstays).trans (if_neg (by rw [show (s.presence.get p).running = false from hstopped]; decide))
  · have hcalls : callsEnding s p = true := by
      obtain ⟨k, hk⟩ := hending
      exact List.any_eq_true.mpr ⟨k, List.mem_finRange k, hk⟩
    have hhappens : (expiresNow s p || callsEnding s p) = true := by rw [hcalls, Bool.or_true]
    let before := s.withClock (clockAtWork s)
    have hwork : workEffect (.presence p) before = _ := countPresence_stays (s := before) hstays
    have hchanged : SameExcept [.presence, .calls] before (workEffect (.presence p) before) := by
      rw [hwork]
      split
      · exact ((withCalls_frame _ _).mono (by simp)).trans ((withPresence_frame _ _).mono (by simp))
      · exact (withCalls_frame _ _).mono (by simp)
    obtain ⟨he, hmarked, hsame⟩ := exec_unit_same (c := .presenceExpiry p) (w := .presence p) (by rfl) hnot hhappens hchanged
    refine ⟨_, he, ?_, ?_, hchanged .clock (by decide), hmarked, hsame.mono (by simp)⟩
    · change (workEffect (.presence p) before).calls = calls
      rw [hwork]
      split <;> rfl
    · change (workEffect (.presence p) before).presence = _
      rw [hwork]
      change State.presence (if r.running = true then _ else _) = _
      split <;> rfl

end Sys2Proof.Safety
end

section
/-! PROOFS. The monitor outputs as their sources come and go, and their return holdoffs (chapter 9). -/

namespace Sys2Proof.Safety
open Sys2Proof.Machine
/-! ## Following the sources (R142 to R145) -/

/-- What an output becomes as its primary's and its backup's availability go from their old values to their new. -/
def followed (primaryWas primaryIs backupWas backupIs : Bool) (o : Output) : Output :=
  let o1 := if primaryWas && !primaryIs then losePrimary backupIs o else o
  if backupWas && !backupIs then loseBackup o1
  else if !backupWas && backupIs then gainBackup primaryIs o1
  else o1

theorem followOutput_eq (s t : State) (o : Output) : followOutput s t o =
    followed (available s o.primary) (available t o.primary) (available s o.backup) (available t o.backup) o := rfl

/-- Where the primary is not lost, only the backup's change moves the output. -/
theorem followed_kept {pw pn bw bn : Bool} (o : Output) (h : ¬ (pw = true ∧ pn = false)) :
    followed pw pn bw bn o =
      if bw = true ∧ bn = false then loseBackup o else if bw = false ∧ bn = true then gainBackup pn o else o := by
  have hkept : (pw && !pn) = false := by
    rw [Bool.eq_false_iff]
    intro hlost
    rw [Bool.and_eq_true, Bool.not_eq_true'] at hlost
    exact h hlost
  rw [followed, hkept]
  cases bw <;> cases bn <;> rfl

/-- Where it is lost, the output takes the loss first and the backup's change after it. -/
theorem followed_lost (bw bn : Bool) (o : Output) : followed true false bw bn o =
    if bw = true ∧ bn = false then loseBackup (losePrimary bn o)
    else if bw = false ∧ bn = true then gainBackup false (losePrimary bn o) else losePrimary bn o := by
  cases bw <;> cases bn <;> rfl

/-- A backup's change leaves an output that is not on its backup and that its backup cannot serve. -/
theorem followed_lost_settled {bw bn : Bool} {o r : Output} (hr : losePrimary bn o = r)
    (hlose : bn = false → r.sel ≠ .backup) (hgain : bn = true → r.sel = .silent → r.action ≠ .backup ∨ r.failed = false) :
    followed true false bw bn o = r := by
  rw [followed_lost, hr]
  split_ifs with hlost hback
  · exact if_neg (by simpa using hlose hlost.2)
  · refine if_neg fun h => ?_
    simp only [Bool.and_eq_true, beq_iff_eq, Bool.not_eq_true'] at h
    obtain ⟨⟨⟨hsel, hfailed⟩, haction⟩, -⟩ := h
    rcases hgain hback.2 hsel with hno | hno
    · exact hno haction
    · rw [hno] at hfailed
      exact absurd hfailed (by decide)
  · rfl

theorem losePrimary_mute {b : Bool} {o : Output} (hsel : o.sel = .primary) (hact : o.action = .mute) :
    losePrimary b o = { o with sel := .silent, failed := true, holdoff := 12000 } := by
  unfold losePrimary
  simp only [hsel, hact]

theorem losePrimary_backup {b : Bool} {o : Output} (hsel : o.sel = .primary) (hact : o.action = .backup) :
    losePrimary b o = { o with sel := if b = true then .backup else .silent, failed := true, holdoff := 12000 } := by
  unfold losePrimary
  simp only [hsel, hact]

theorem losePrimary_hold {b : Bool} {o : Output} (hsel : o.sel = .primary) (hact : o.action = .hold) :
    losePrimary b o = { o with failed := false, holdoff := 0 } := by
  unfold losePrimary
  simp only [hsel, hact]

theorem losePrimary_onBackup {b : Bool} {o : Output} (hsel : o.sel = .backup) :
    losePrimary b o = { o with failed := true, holdoff := 12000 } := by
  unfold losePrimary
  simp only [hsel]

theorem losePrimary_failed {b : Bool} {o : Output} (hsel : o.sel = .silent) (hfailed : o.failed = true) :
    losePrimary b o =
      { o with sel := if o.action = .backup ∧ b = true then .backup else .silent, holdoff := 12000 } := by
  unfold losePrimary
  simp only [hsel, hfailed, if_true, Bool.and_eq_true, beq_iff_eq]

/-- A source is available while its port is carried and its flag is set in the mask in force (R141). -/
theorem available_iff (s : State) (src : Source) : available s (some src) = true ↔
    (Carrying src.port .a s ∨ Carrying src.port .b s) ∧ (s.merges.get src.port).mask.getLsbD src.ch.val = true := by
  rw [available, Bool.and_eq_true, online, Bool.or_eq_true, carries_iff, carries_iff]

/-- How an output follows its sources. -/
theorem followOutput_rules (s t : State) (o : Output) :
    let lost := available s o.primary = true ∧ available t o.primary = false
    let backupLost := available s o.backup = true ∧ available t o.backup = false
    let backupBack := available s o.backup = false ∧ available t o.backup = true
    let spare := available t o.backup = true
    (¬ lost → ¬ backupLost → ¬ backupBack → followOutput s t o = o)
    ∧ (lost → o.sel = .primary → o.action = .mute →
        followOutput s t o = { o with sel := .silent, failed := true, holdoff := 12000 })
    ∧ (lost → o.sel = .primary → o.action = .backup →
        followOutput s t o = { o with sel := if spare then .backup else .silent, failed := true, holdoff := 12000 })
    ∧ (lost → o.sel = .primary → o.action = .hold → followOutput s t o = { o with failed := false, holdoff := 0 })
    ∧ (lost → o.sel = .backup → o.action = .backup →
        followOutput s t o =
          { o with sel := if backupLost then .silent else .backup, failed := true, holdoff := 12000 })
    ∧ (lost → o.sel = .silent → o.failed = true →
        followOutput s t o =
          { o with sel := if o.action = .backup ∧ spare then .backup else .silent, holdoff := 12000 })
    ∧ (¬ lost → backupLost → followOutput s t o = if o.sel = .backup then { o with sel := .silent } else o)
    ∧ (¬ lost → backupBack →
        followOutput s t o =
          if o.sel = .silent ∧ o.failed = true ∧ o.action = .backup ∧ available t o.primary = false then
            { o with sel := .backup }
          else o) := by
  rw [followOutput_eq]
  generalize available s o.primary = pw
  generalize available t o.primary = pn
  generalize available s o.backup = bw
  generalize available t o.backup = bn
  intro lost backupLost backupBack spare
  refine ⟨fun hkept hno hnoback => ?_, ?_, ?_, ?_, ?_, ?_, fun hkept hbackup => ?_, fun hkept hback => ?_⟩
  · rw [followed_kept o hkept, if_neg hno, if_neg hnoback]
  · rintro ⟨rfl, rfl⟩ hsel hact
    exact followed_lost_settled (losePrimary_mute hsel hact) (fun _ => nofun) fun _ _ => .inl (by simp [hact])
  · rintro ⟨rfl, rfl⟩ hsel hact
    refine followed_lost_settled (losePrimary_backup hsel hact) ?_ ?_
    · rintro rfl
      exact nofun
    · rintro rfl
      exact nofun
  · rintro ⟨rfl, rfl⟩ hsel hact
    refine followed_lost_settled (losePrimary_hold hsel hact) (fun _ => by simp [hsel]) fun _ _ => .inr rfl
  · rintro ⟨rfl, rfl⟩ hsel hact
    rw [followed_lost, losePrimary_onBackup hsel, loseBackup, gainBackup, hsel]
    cases bw <;> cases bn <;> simp [backupLost]
  · rintro ⟨rfl, rfl⟩ hsel hfailed
    refine followed_lost_settled (losePrimary_failed hsel hfailed) ?_ ?_
    · rintro rfl
      simp [spare]
    · rintro rfl hsilent
      refine .inl fun hact => ?_
      simp [spare, show o.action = .backup from hact] at hsilent
  · rw [followed_kept o hkept, if_pos hbackup, loseBackup]
    exact if_congr beq_iff_eq rfl rfl
  · have hno : ¬ (bw = true ∧ bn = false) := by
      rintro ⟨rfl, -⟩
      exact absurd hback.1 (by decide)
    rw [followed_kept o hkept, if_neg hno, if_pos hback, gainBackup]
    exact if_congr (by simp only [Bool.and_eq_true, beq_iff_eq, Bool.not_eq_true', and_assoc]) rfl rfl

/-! ## The return holdoff (R146) -/

set_option Elab.async false in
theorem countHoldoff_ends {o : OutId} {s : State} (hfailed : (s.outputs[o]'o.2).failed = true)
    (havail : available s (s.outputs[o]'o.2).primary = true) (hone : (s.outputs[o]'o.2).holdoff ≤ 1) : countHoldoff o s =
      settle (setOutputRec o { (s.outputs[o]'o.2) with sel := .primary, failed := false, holdoff := 0 } s) := by
  unfold countHoldoff
  dsimp only
  rw [if_pos (by rw [hfailed, havail]; rfl), if_pos hone]

theorem countHoldoff_runs {o : OutId} {s : State} (hfailed : (s.outputs[o]'o.2).failed = true)
    (havail : available s (s.outputs[o]'o.2).primary = true) (hmore : 1 < (s.outputs[o]'o.2).holdoff) : countHoldoff o s =
      setOutputRec o { (s.outputs[o]'o.2) with holdoff := (s.outputs[o]'o.2).holdoff - 1 } s := by
  unfold countHoldoff
  dsimp only
  rw [if_pos (by rw [hfailed, havail]; rfl), if_neg (Nat.not_le.mpr hmore)]

theorem countHoldoff_stands {o : OutId} {s : State}
    (h : (s.outputs[o]'o.2).failed = false ∨ available s (s.outputs[o]'o.2).primary = false) : countHoldoff o s = s := by
  unfold countHoldoff
  dsimp only
  refine if_neg fun hboth => ?_
  obtain ⟨hfailed, havail⟩ := (Bool.and_eq_true _ _).mp hboth
  rcases h with h | h
  · exact Bool.false_ne_true (h.symm.trans hfailed)
  · exact Bool.false_ne_true (h.symm.trans havail)

/-- Settles O42. -/
theorem outputFollowsItsSourcesAndItsHoldoff : Obligations.OutputFollowsItsSourcesAndItsHoldoff := by
  refine ⟨⟨available_iff, fun _ => rfl, followOutput_rules⟩, fun o s hnot => ?_, fun o s => ?_⟩
  · intro r hfailed havail hone
    have hhappens : returnEnds o s = true := by
      rw [returnEnds, hfailed, havail, show (s.outputs[o]'o.2).holdoff = 1 from hone]
      rfl
    have hwork : workEffect (.holdoff o) (s.withClock (clockAtWork s))
        = settle (setOutputRec o { r with sel := .primary, failed := false, holdoff := 0 }
            (s.withClock (clockAtWork s))) :=
      countHoldoff_ends (s := s.withClock (clockAtWork s)) hfailed havail (le_of_eq hone)
    obtain ⟨he, hmarked, hsame⟩ := exec_unit_same (c := .outputHoldoffEnd o) (w := .holdoff o) (by rfl) hnot hhappens
      (changed := [.outputs, .faults]) (by rw [hwork]; exact (setOutputRec_frame _ _ _).seq (settle_frame _))
    rw [hwork] at he hmarked hsame
    refine ⟨_, he, ?_, ?_, hmarked, ?_, hsame.mono (by simp)⟩
    · exact settle_frame (setOutputRec o { r with sel := .primary, failed := false, holdoff := 0 } _) .outputs (by decide)
    · exact settle_frame (setOutputRec o { r with sel := .primary, failed := false, holdoff := 0 } _) .clock (by decide)
    · have hreported : OnlyConditionsReported (s.withClock (clockAtWork s))
          (settle (setOutputRec o { r with sel := .primary, failed := false, holdoff := 0 }
            (s.withClock (clockAtWork s)))) := onlyConditionsReported_settle rfl
      exact (hreported.of_same (markTaken_frame _ _)).from_work
  · exact ⟨countHoldoff_runs, countHoldoff_stands⟩

end Sys2Proof.Safety
end

section
/-! PROOFS. The debounced press and release of a key (R162 to R164, R170, R171). -/

namespace Sys2Proof.Safety
open Sys2Proof.Machine
@[simp] theorem vset_vset {α : Type} {n : Nat} (v : Vector α n) (i : Fin n) (x y : α) :
    vset (vset v i x) i y = vset v i y := by
  ext j hj
  rw [vset_getElem, vset_getElem, vset_getElem]
  split <;> rfl

/-! ## A press and a release -/

/-- A key's record after a debounced press (R163). -/
def pressedRecord (latch : Bool) (r : Key) : Key :=
  if r.state = .released then { r with state := .pressed, toggle := if latch = true then !r.toggle else r.toggle } else r

/-- A key's record after a debounced release (R163). -/
def releasedRecord (r : Key) : Key := { r with state := if r.state = .disabled then .disabled else .released }

theorem pressKey_of_released {k : KeyId} {s : State} (h : (s.keys[k]'k.2).state = .released) : pressKey k s =
    ports.foldl (raiseCallAt k) (setKey k (pressedRecord (keyConfig s k).latch (s.keys[k]'k.2)) s) := by
  unfold pressKey pressedRecord
  simp only [h, if_true]

theorem pressKey_of_other {k : KeyId} {s : State} (h : (s.keys[k]'k.2).state ≠ .released) : pressKey k s = s := by
  unfold pressKey
  dsimp only
  split
  · exact absurd ‹_› h
  all_goals rfl

/-- A press of a RELEASED key raises its calls (R170). -/
theorem pressKey_calls (k : KeyId) (s : State) (p : Port) (j : KeyId) : (((pressKey k s).calls.get p)[j]'j.2) =
    if j = k ∧ (s.keys[k]'k.2).state = .released ∧ (keyConfig s k).ports.get p = true ∧ (s.presence.get p).present = true
        ∧ ((s.calls.get p)[k]'k.2).pending = false then { pending := true, acked := false }
    else ((s.calls.get p)[j]'j.2) := by
  by_cases h : (s.keys[k]'k.2).state = .released
  · rw [pressKey_of_released h, raiseCalls_get]
    refine if_congr (and_congr_right fun _ => ?_) rfl rfl
    rw [Bool.and_eq_true, Bool.and_eq_true, Bool.not_eq_true', and_assoc]
    exact (and_iff_right h).symm
  · rw [pressKey_of_other h, if_neg fun hc => h hc.2.1]

theorem pressKey_keys (k : KeyId) (s : State) :
    (pressKey k s).keys = vset s.keys k (pressedRecord (keyConfig s k).latch (s.keys[k]'k.2)) := by
  by_cases h : (s.keys[k]'k.2).state = .released
  · rw [pressKey_of_released h]
    exact SameExcept.foldl (raiseCallAt_frame k) ports (setKey k _ s) .keys (by decide)
  · rw [pressKey_of_other h, pressedRecord, if_neg h, vset_self]

theorem releaseKey_of_pressed {k : KeyId} {s : State} (h : (s.keys[k]'k.2).state = .pressed) : releaseKey k s =
    ports.foldl (releaseCallAt k) (setKey k { (s.keys[k]'k.2) with state := .released } s) := by
  unfold releaseKey
  simp only [h]

theorem releaseKey_of_arming {k : KeyId} {s : State} (h : (s.keys[k]'k.2).state = .arming) : releaseKey k s =
    setKey k { (s.keys[k]'k.2) with state := .released } s := by
  unfold releaseKey
  simp only [h]

theorem releaseKey_of_rest {k : KeyId} {s : State}
    (h : (s.keys[k]'k.2).state = .disabled ∨ (s.keys[k]'k.2).state = .released) :
    releaseKey k s = s := by
  unfold releaseKey
  rcases h with h | h <;> simp only [h]

set_option Elab.async false in
/-- A release of a PRESSED key clears its acknowledged calls (R171). -/
theorem releaseKey_calls (k : KeyId) (s : State) (p : Port) (j : KeyId) : (((releaseKey k s).calls.get p)[j]'j.2) =
    if j = k ∧ (s.keys[k]'k.2).state = .pressed ∧ ((s.calls.get p)[k]'k.2).pending = true
        ∧ ((s.calls.get p)[k]'k.2).acked = true then
      { pending := false, acked := false }
    else ((s.calls.get p)[j]'j.2) := by
  cases h : (s.keys[k]'k.2).state with
  | pressed =>
    rw [releaseKey_of_pressed h, releaseCalls_get]
    refine if_congr (and_congr_right fun _ => ?_) rfl rfl
    rw [Bool.and_eq_true]
    exact (and_iff_right rfl).symm
  | arming =>
    rw [releaseKey_of_arming h]
    exact (if_neg fun hc => nomatch hc.2.1).symm
  | disabled =>
    rw [releaseKey_of_rest (.inl h)]
    exact (if_neg fun hc => nomatch hc.2.1).symm
  | released =>
    rw [releaseKey_of_rest (.inr h)]
    exact (if_neg fun hc => nomatch hc.2.1).symm

theorem releaseKey_keys (k : KeyId) (s : State) : (releaseKey k s).keys
    = vset s.keys k (releasedRecord (s.keys[k]'k.2)) := by
  have hrest (hrec : releasedRecord (s.keys[k]'k.2) = (s.keys[k]'k.2)) : s.keys
      = vset s.keys k (releasedRecord (s.keys[k]'k.2)) := by
    rw [hrec, vset_self]
  cases h : (s.keys[k]'k.2).state with
  | pressed =>
    rw [releaseKey_of_pressed h, releasedRecord, h]
    exact SameExcept.foldl (releaseCallAt_frame k) ports (setKey k _ s) .keys (by decide)
  | arming =>
    rw [releaseKey_of_arming h, releasedRecord, h]
    rfl
  | disabled =>
    rw [releaseKey_of_rest (.inl h)]
    refine hrest ?_
    rw [releasedRecord, h, if_pos rfl, ← h]
  | released =>
    rw [releaseKey_of_rest (.inr h)]
    refine hrest ?_
    rw [releasedRecord, h, if_neg nofun, ← h]

/-! ## The debouncing (R162) -/

theorem debounce_equal {k : KeyId} {s : State} (h : (s.latch.keyLow[k]'k.2) = (s.keys[k]'k.2).down) :
    debounce k s = setKey k { (s.keys[k]'k.2) with stab := 0 } s := if_pos (beq_iff_eq.mpr h)

theorem debounce_counts {k : KeyId} {s : State} (h : (s.latch.keyLow[k]'k.2) ≠ (s.keys[k]'k.2).down)
    (hlt : (s.keys[k]'k.2).stab < 23) :
    debounce k s = setKey k { (s.keys[k]'k.2) with stab := (s.keys[k]'k.2).stab + 1 } s := by
  refine (if_neg (by rwa [beq_iff_eq])).trans (if_neg (by omega))

theorem debounce_moves {k : KeyId} {s : State} (h : (s.latch.keyLow[k]'k.2) ≠ (s.keys[k]'k.2).down)
    (hfull : (s.keys[k]'k.2).stab = 23) :
    debounce k s =
      let moved := setKey k { (s.keys[k]'k.2) with down := (s.latch.keyLow[k]'k.2), stab := 0 } s
      if (s.latch.keyLow[k]'k.2) = true then pressKey k moved else releaseKey k moved :=
  (if_neg (by rwa [beq_iff_eq])).trans (if_pos (by omega))

theorem leavesArming_iff (r : Key) : (r.state == .arming && !r.down) = true ↔ r.state = .arming ∧ r.down = false := by
  rw [Bool.and_eq_true, beq_iff_eq, Bool.not_eq_true']

/-- A count of the debouncing, and the end of ARMING after it (R164). -/
theorem keyWork_counts {k : KeyId} {s : State} {n : Nat} (h : debounce k s = setKey k { (s.keys[k]'k.2) with stab := n } s) :
    keyWork k s = s.withKeys (vset s.keys k { (s.keys[k]'k.2) with
      stab := n,
      state := if (s.keys[k]'k.2).state = .arming ∧ (s.keys[k]'k.2).down
          = false then .released else (s.keys[k]'k.2).state }) := by
  have hrecord : ((setKey k { (s.keys[k]'k.2) with stab := n } s).keys[k]'k.2) = { (s.keys[k]'k.2) with stab := n } :=
    (setKey_get _ _ _ _).trans (if_pos rfl)
  rw [keyWork, h, leaveArming]
  dsimp only
  rw [hrecord]
  by_cases harming : (s.keys[k]'k.2).state = .arming ∧ (s.keys[k]'k.2).down = false
  · rw [if_pos ((leavesArming_iff _).mpr harming), if_pos harming, setKey, setKey]
    exact congrArg s.withKeys (vset_vset _ _ _ _)
  · rw [if_neg fun h => harming ((leavesArming_iff _).mp h), if_neg harming]
    rfl

theorem leaveArming_stays {k : KeyId} {s : State} (h : (s.keys[k]'k.2).state ≠ .arming ∨ (s.keys[k]'k.2).down = true) :
    leaveArming k s = s := by
  refine if_neg fun hleaves => ?_
  obtain ⟨harming, hup⟩ := (leavesArming_iff _).mp hleaves
  rcases h with h | h
  · exact h harming
  · exact Bool.false_ne_true (hup.symm.trans h)

theorem pressedRecord_down (latch : Bool) (r : Key) : (pressedRecord latch r).down = r.down := by
  unfold pressedRecord
  split <;> rfl

section
variable {k : KeyId} {s : State} (hfull : (s.keys[k]'k.2).stab = 23)
include hfull

/-- The 24th low sample in a row of a key that is UP (R162, R163). -/
theorem keyWork_presses (hlow : (s.latch.keyLow[k]'k.2) = true) (hup : (s.keys[k]'k.2).down = false) :
    (keyWork k s).keys = vset s.keys k (pressedRecord (keyConfig s k).latch { (s.keys[k]'k.2) with down := true, stab := 0 })
    ∧ ∀ (p : Port) (j : KeyId), (((keyWork k s).calls.get p)[j]'j.2) =
        if j = k ∧ (s.keys[k]'k.2).state = .released ∧ (keyConfig s k).ports.get p = true ∧ (s.presence.get p).present = true
            ∧ ((s.calls.get p)[k]'k.2).pending = false then { pending := true, acked := false }
        else ((s.calls.get p)[j]'j.2) := by
  obtain ⟨moved, hmoved⟩ : ∃ u, setKey k { (s.keys[k]'k.2) with down := true, stab := 0 } s = u := ⟨_, rfl⟩
  have hdebounce : debounce k s = pressKey k moved := by
    rw [debounce_moves (by rw [hlow, hup]; decide) hfull, hlow]
    exact (if_pos rfl).trans (congrArg _ hmoved)
  have hrecord : (moved.keys[k]'k.2) = { (s.keys[k]'k.2) with down := true, stab := 0 } := by
    rw [← hmoved]
    exact (setKey_get _ _ _ _).trans (if_pos rfl)
  have hkeys := pressKey_keys k moved
  have hwork : keyWork k s = pressKey k moved := by
    rw [keyWork, hdebounce]
    refine leaveArming_stays (.inr ?_)
    rw [hkeys, vset_get, if_pos rfl, pressedRecord_down, hrecord]
  have hcalls := pressKey_calls k moved
  have hstate : (moved.keys[k]'k.2).state = (s.keys[k]'k.2).state := by rw [hrecord]
  rw [hwork, hkeys, hrecord]
  rw [hstate] at hcalls
  subst hmoved
  exact ⟨vset_vset _ _ _ _, hcalls⟩

/-- The 24th high sample in a row of a key that is DOWN (R162, R163). -/
theorem keyWork_releases (hhigh : (s.latch.keyLow[k]'k.2) = false) (hdown : (s.keys[k]'k.2).down = true) :
    (keyWork k s).keys = vset s.keys k (releasedRecord { (s.keys[k]'k.2) with down := false, stab := 0 })
    ∧ ∀ (p : Port) (j : KeyId), (((keyWork k s).calls.get p)[j]'j.2) =
        if j = k ∧ (s.keys[k]'k.2).state = .pressed ∧ ((s.calls.get p)[k]'k.2).pending = true
            ∧ ((s.calls.get p)[k]'k.2).acked = true then
          { pending := false, acked := false }
        else ((s.calls.get p)[j]'j.2) := by
  obtain ⟨moved, hmoved⟩ : ∃ u, setKey k { (s.keys[k]'k.2) with down := false, stab := 0 } s = u := ⟨_, rfl⟩
  have hdebounce : debounce k s = releaseKey k moved := by
    rw [debounce_moves (by rw [hhigh, hdown]; decide) hfull, hhigh]
    exact (if_neg nofun).trans (congrArg _ hmoved)
  have hrecord : (moved.keys[k]'k.2) = { (s.keys[k]'k.2) with down := false, stab := 0 } := by
    rw [← hmoved]
    exact (setKey_get _ _ _ _).trans (if_pos rfl)
  have hkeys := releaseKey_keys k moved
  have hwork : keyWork k s = releaseKey k moved := by
    rw [keyWork, hdebounce]
    refine leaveArming_stays (.inl ?_)
    rw [hkeys, vset_get, if_pos rfl, releasedRecord]
    dsimp only
    split <;> nofun
  have hcalls := releaseKey_calls k moved
  have hstate : (moved.keys[k]'k.2).state = (s.keys[k]'k.2).state := by rw [hrecord]
  rw [hwork, hkeys, hrecord]
  rw [hstate] at hcalls
  subst hmoved
  exact ⟨vset_vset _ _ _ _, hcalls⟩

end

/-! ## The commands -/

section
variable {k : KeyId} {s : State} (hnot : NotYetTaken (.key k) s) (hfull : (s.keys[k]'k.2).stab = 23)
include hnot hfull

/-- A key's unit of work taken with its own sample, the 24th that differs. -/
theorem exec_debounced {c : Instr} {low : Bool}
    (hexec : exec c s = whileRunning s (oneUnit (.key k) (debounces k low) (latchKey k low)))
    (hdiffers : (s.keys[k]'k.2).down = !low) :
    let before := latchKey k low (s.withClock (clockAtWork s))
    ∃ t, exec c s = .next t ∧ t.keys = (keyWork k before).keys ∧ t.calls = (keyWork k before).calls
      ∧ t.latch = { s.latch with keyLow := vset s.latch.keyLow k low, taken := .key k :: s.latch.taken }
      ∧ t.clock = clockAtWork s ∧ SameExcept [.keys, .calls, .latch, .clock] s t := by
  intro before
  have hhappens : debounces k low s = true := by
    rw [debounces, hfull, hdiffers]
    cases low <;> rfl
  have hlatched : SameExcept [.latch, .clock] s before :=
    ((withClock_frame _ s).mono (by simp)).trans ((withLatch_frame _ _).mono (by simp))
  have hwork := keyWork_frame k before
  have hmark := markTaken_frame (.key k) (keyWork k before)
  refine ⟨markTaken (.key k) (keyWork k before), exec_unit hexec hnot hhappens rfl, hmark .keys (by decide),
    hmark .calls (by decide), ?_, (hmark .clock (by decide)).trans (hwork .clock (by decide)), ?_⟩
  · rw [markTaken_latch, hwork .latch (by decide)]
    rfl
  · exact (hlatched.mono (by simp)).trans ((hwork.mono (by simp)).trans (hmark.mono (by simp)))

set_option Elab.async false in
/-- DEBOUNCED_PRESS (R162, R163, R170). -/
theorem debouncedPress_taken (hup : (s.keys[k]'k.2).down = false) :
    let r := (s.keys[k]'k.2)
    let conf := (s.settings.keys[k]'k.2)
    ∃ t, exec (.debouncedPress k) s = .next t
      ∧ t.keys = vset s.keys k
          (if r.state = .released then
             { state := .pressed, down := true, stab := 0, toggle := if conf.latch then !r.toggle else r.toggle }
           else { r with down := true, stab := 0 })
      ∧ (∀ p, ((t.calls.get p)[k]'k.2) =
          if r.state = .released ∧ conf.ports.get p = true ∧ (s.presence.get p).present = true
              ∧ ((s.calls.get p)[k]'k.2).pending = false then { pending := true, acked := false }
          else ((s.calls.get p)[k]'k.2))
      ∧ (∀ p (j : KeyId), j ≠ k → ((t.calls.get p)[j]'j.2) = ((s.calls.get p)[j]'j.2))
      ∧ t.latch = { s.latch with keyLow := vset s.latch.keyLow k true, taken := .key k :: s.latch.taken }
      ∧ t.clock = clockAtWork s ∧ SameExcept [.keys, .calls, .latch, .clock] s t := by
  intro r conf
  obtain ⟨t, he, hkeysLeft, hcallsLeft, hlatch, hclock, hsame⟩ :=
    exec_debounced hnot hfull (c := .debouncedPress k) (low := true) (by rfl) hup
  obtain ⟨hkeys, hcalls⟩ := keyWork_presses (s := latchKey k true (s.withClock (clockAtWork s))) hfull
    ((vset_get _ _ _ _).trans (if_pos rfl)) hup
  rw [← hkeysLeft] at hkeys
  rw [← hcallsLeft] at hcalls
  exact ⟨t, he, hkeys, fun p => (hcalls p k).trans (if_congr (and_iff_right rfl) rfl rfl),
    fun p j hj => (hcalls p j).trans (if_neg fun h => hj h.1), hlatch, hclock, hsame⟩

/-- DEBOUNCED_RELEASE (R162, R163, R171). -/
theorem debouncedRelease_taken (hdown : (s.keys[k]'k.2).down = true) :
    let r := (s.keys[k]'k.2)
    ∃ t, exec (.debouncedRelease k) s = .next t
      ∧ t.keys = vset s.keys k
          { r with down := false, stab := 0, state := if r.state = .disabled then .disabled else .released }
      ∧ (∀ p, ((t.calls.get p)[k]'k.2) =
          if r.state = .pressed ∧ ((s.calls.get p)[k]'k.2).pending = true ∧ ((s.calls.get p)[k]'k.2).acked = true then
            { pending := false, acked := false }
          else ((s.calls.get p)[k]'k.2))
      ∧ (∀ p (j : KeyId), j ≠ k → ((t.calls.get p)[j]'j.2) = ((s.calls.get p)[j]'j.2))
      ∧ t.latch = { s.latch with keyLow := vset s.latch.keyLow k false, taken := .key k :: s.latch.taken }
      ∧ t.clock = clockAtWork s ∧ SameExcept [.keys, .calls, .latch, .clock] s t := by
  intro r
  obtain ⟨t, he, hkeysLeft, hcallsLeft, hlatch, hclock, hsame⟩ :=
    exec_debounced hnot hfull (c := .debouncedRelease k) (low := false) (by rfl) hdown
  obtain ⟨hkeys, hcalls⟩ := keyWork_releases (s := latchKey k false (s.withClock (clockAtWork s))) hfull
    ((vset_get _ _ _ _).trans (if_pos rfl)) hdown
  rw [← hkeysLeft] at hkeys
  rw [← hcallsLeft] at hcalls
  exact ⟨t, he, hkeys, fun p => (hcalls p k).trans (if_congr (and_iff_right rfl) rfl rfl),
    fun p j hj => (hcalls p j).trans (if_neg fun h => hj h.1), hlatch, hclock, hsame⟩

end

/-- Settles O48. -/
theorem debouncedPressAndReleaseMoveTheKey : Obligations.DebouncedPressAndReleaseMoveTheKey :=
  ⟨fun _ _ hnot => ⟨fun hup hfull => debouncedPress_taken hnot hfull hup,
      fun hdown hfull => debouncedRelease_taken hnot hfull hdown⟩,
    fun _ _ => ⟨fun h => keyWork_counts (debounce_equal h), fun h hlt => keyWork_counts (debounce_counts h hlt)⟩⟩

end Sys2Proof.Safety
end

section
/-! PROOFS. A channel's captured frame and its pending step (R73, R77 to R79, R88, R95). -/

namespace Sys2Proof.Safety
open Sys2Proof.Machine
/-! ## Zero crossings (R77) -/

theorem opposite_iff (a b : Sample) : opposite a b = true ↔ OppositeSigns a b := by
  simp only [opposite, OppositeSigns, Bool.or_eq_true, Bool.and_eq_true, decide_eq_true_eq]

theorem frame_toList (f : SampleFrame) : f.toList = [f[0], f[1], f[2], f[3], f[4], f[5], f[6], f[7]] := by
  refine List.ext_getElem (by simp) fun i hi _ => ?_
  have hlt : i < 8 := by simpa using hi
  interval_cases i <;> simp

theorem hasCrossing_iff (last : Sample) (f : SampleFrame) : hasCrossing last f = true ↔ HasCrossing last f := by
  simp only [hasCrossing, HasCrossing, frame_toList, List.zip_cons_cons, List.zip_nil_right, List.any_cons, List.any_nil,
    Bool.or_eq_true, opposite_iff, beq_iff_eq, Fin.exists_fin_succ]
  simp [or_assoc]

/-! ## The meters (R88) -/

theorem meterFrame_eq (f : SampleFrame) (m : Meter) : meterFrame f m =
    { m with
      peak := f.toList.foldl (fun k x => max k x.toInt.natAbs) m.peak
      clip := m.clip || f.toList.any fun x => x == BitVec.intMin 24 || x == BitVec.intMax 24 } := by
  have hclip (x : Sample) : (x.toInt == -8388608 || x.toInt == 8388607)
      = (x == BitVec.intMin 24 || x == BitVec.intMax 24) := by
    rw [Bool.eq_iff_iff]
    simp only [Bool.or_eq_true, beq_iff_eq, ← BitVec.toInt_inj]
    rfl
  simp only [meterFrame, magnitude, hclip]

/-- A captured frame met by every port's record of the channel. -/
theorem foldl_meterFrame_get (c : Chan) (f : SampleFrame) (s : State) (q : Port) (d : Chan) :
    (((ports.foldl (fun s p => setMeter p c (meterFrame f ((s.meters.get p)[c]'c.2)) s) s).meters.get q)[d]'d.2)
      = if d = c then meterFrame f ((s.meters.get q)[c]'c.2) else ((s.meters.get q)[d]'d.2) := by
  have h := foldl_read (f := fun s p => setMeter p c (meterFrame f ((s.meters.get p)[c]'c.2)) s)
      (fun s p => ((s.meters.get p)[d]'d.2))
    (fun s p => if d = c then meterFrame f ((s.meters.get p)[c]'c.2) else ((s.meters.get p)[d]'d.2))
    (fun s p => by rw [setMeter_get]; exact if_congr (and_iff_right rfl) rfl rfl)
    (fun s p q hq => by rw [setMeter_get, if_neg fun h => hq h.1])
    (fun s p q hq => by simp only [setMeter_get, if_neg fun h : q = p ∧ _ => hq h.1]) ports_nodup s q
  exact h.trans (if_pos (mem_ports q))

/-! ## The pending step (R78, R79) -/

/-- A step that changes nothing only ends. -/
theorem applyStep_same {c : Chan} {st : Step} {s : State}
    (h : st.gain = (s.channels[c]'c.2).gain ∧ st.pad = (s.channels[c]'c.2).pad) :
    applyStep c st s = setChannel c { (s.channels[c]'c.2) with pending := none } s := if_pos h

/-- A channel's record once its step has been applied (R79). -/
def steppedChannel (st : Step) (ch : Channel) : Channel :=
  { ch with gain := st.gain, pad := st.pad, eff := if st.pad then st.gain - 40 else st.gain, pending := none
            sent := sentSetting st.gain st.pad ch.phantom }

/-- Any other step changes the setting, and with it the tracking records of the channel (R79, R95). -/
theorem applyStep_new {c : Chan} {st : Step} {s : State}
    (h : ¬ (st.gain = (s.channels[c]'c.2).gain ∧ st.pad = (s.channels[c]'c.2).pad)) :
    let eff := if st.pad then st.gain - 40 else st.gain
    let t := applyStep c st s
    t.channels = vset s.channels c (steppedChannel st (s.channels[c]'c.2))
    ∧ (∀ p (d : Chan), d ≠ c → ((t.tracks.get p)[d]'d.2) = ((s.tracks.get p)[d]'d.2))
    ∧ (∀ p, ((t.tracks.get p)[c]'c.2) =
        let r := ((s.tracks.get p)[c]'c.2)
        withGain eff (if (s.owners.chan[c]'c.2) = some p ∨ r.tracking = false then { r with anchor := eff } else r))
    ∧ t.journal = journalWith [⟨.gain, c.val, (s.owners.chan[c]'c.2), gainNews st.gain st.pad⟩] s.journal
    ∧ OnlyConditionsReported s t := by
  intro eff t
  let changed := setChannel c (steppedChannel st (s.channels[c]'c.2)) s
  let anchored := anchorRule c changed
  have ht : t = settle (appendEntry .gain c.val (s.owners.chan[c]'c.2) (gainValue st.gain st.pad) anchored) := by
    refine (if_neg h).trans ?_
    rw [sendSetting_eq]
    rfl
  have hanchored : SameExcept [.tracks] changed anchored := anchorRule_frame c changed
  have hchanged : SameExcept [.channels] s changed := setChannel_frame _ _ _
  have hdone : SameExcept [.journal, .faults] anchored t := by
    rw [ht]
    exact (appendEntry_frame _ _ _ _ _).seq (settle_frame _)
  have heff : (changed.channels[c]'c.2).eff = eff := by
    rw [setChannel_get, if_pos rfl]
    rfl
  have htracks (p : Port) (d : Chan) : ((t.tracks.get p)[d]'d.2) =
      if d = c then anchorOne (s.owners.chan[c]'c.2) eff p ((s.tracks.get p)[c]'c.2) else ((s.tracks.get p)[d]'d.2) := by
    rw [hdone .tracks (by decide), anchorRule_get, heff, hchanged .tracks (by decide), hchanged .owners (by decide)]
  refine ⟨?_, fun p d hd => (htracks p d).trans (if_neg hd), fun p => (htracks p c).trans ((if_pos rfl).trans ?_), ?_, ?_⟩
  · exact (hdone .channels (by decide)).trans (hanchored .channels (by decide))
  · rw [anchorOne, recompute_eq_withGain]
    exact congrArg (withGain eff) (if_congr (by simp only [Bool.or_eq_true, beq_iff_eq, Bool.not_eq_true']) rfl rfl)
  · rw [ht, settle_frame _ .journal (by decide), appendEntry_journal, gainValue_eq,
      hanchored .journal (by decide), hchanged .journal (by decide)]
  · rw [ht]
    refine onlyConditionsReported_settle ?_
    rw [appendEntry_frame _ _ _ _ _ .faults (by decide), hanchored .faults (by decide), hchanged .faults (by decide)]

theorem advanceStep_none {c : Chan} {f : SampleFrame} {s : State} (h : (s.channels[c]'c.2).pending = none) :
    advanceStep c f s = s := by
  unfold advanceStep
  simp only [h]

theorem advanceStep_waits {c : Chan} {f : SampleFrame} {st : Step} {s : State} (h : (s.channels[c]'c.2).pending = some st)
    (hno : ¬ HasCrossing (s.channels[c]'c.2).last f) (hlt : st.waited < 59) :
    advanceStep c f s = setChannel c { (s.channels[c]'c.2) with pending := some { st with waited := st.waited + 1 } } s := by
  unfold advanceStep
  simp only [h]
  refine if_neg ?_
  rw [Bool.or_eq_true, hasCrossing_iff, decide_eq_true_eq]
  rintro (hyes | hge)
  · exact hno hyes
  · omega

set_option Elab.async false in
theorem advanceStep_applies {c : Chan} {f : SampleFrame} {st : Step} {s : State} (h : (s.channels[c]'c.2).pending = some st)
    (hends : HasCrossing (s.channels[c]'c.2).last f ∨ 59 ≤ st.waited) : advanceStep c f s = applyStep c st s := by
  unfold advanceStep
  simp only [h]
  refine if_pos ?_
  rw [Bool.or_eq_true, hasCrossing_iff, decide_eq_true_eq]
  exact hends.imp_right fun _ => by omega

/-! ## A captured frame -/

/-- The state once the meters have met a captured frame. -/
def metered (c : Chan) (f : SampleFrame) (s : State) : State :=
  ports.foldl (fun s p => setMeter p c (meterFrame f ((s.meters.get p)[c]'c.2)) s) s

theorem metered_frame (c : Chan) (f : SampleFrame) (s : State) : SameExcept [.meters] s (metered c f s) :=
  SameExcept.foldl (fun _ _ => setMeter_frame _ _ _ _) _ _

/-- A captured frame's last sample is kept for the next one's crossings (R77). -/
def keepLast (c : Chan) (f : SampleFrame) (s : State) : State := setChannel c { (s.channels[c]'c.2) with last := f[7] } s

theorem keepLast_channels {c : Chan} {f : SampleFrame} {s a : State} {ch : Channel}
    (h : a.channels = vset s.channels c ch) : (keepLast c f a).channels = vset s.channels c { ch with last := f[7] } := by
  have hread : (a.channels[c]'c.2) = ch := by rw [h, vset_get, if_pos rfl]
  change vset a.channels c { (a.channels[c]'c.2) with last := f[7] } = _
  rw [hread, h, vset_vset]

theorem captureFrame_eq (c : Chan) (s : State) : captureFrame c s =
    keepLast c (s.latch.captured[c]'c.2) (advanceStep c (s.latch.captured[c]'c.2)
        (metered c (s.latch.captured[c]'c.2) s)) := rfl

/-- A captured frame that only moves the channel's own record. -/
theorem captured_record {c : Chan} {f : SampleFrame} {s u : State} {ch : Channel} (hu : SameExcept [.meters] s u) :
    let t := keepLast c f (setChannel c ch u)
    t.channels = vset s.channels c { ch with last := f[7] }
      ∧ t.tracks = s.tracks ∧ t.journal = s.journal ∧ t.faults = s.faults := by
  have hsame : SameExcept [.channels, .meters] s (keepLast c f (setChannel c ch u)) :=
    (hu.mono (by simp)).trans (((setChannel_frame c ch u).mono (by simp)).trans ((setChannel_frame _ _ _).mono (by simp)))
  have hset : (setChannel c ch u).channels = vset s.channels c ch := by
    rw [← hu .channels (by decide)]
    rfl
  exact ⟨keepLast_channels hset, hsame .tracks (by decide), hsame .journal (by decide), hsame .faults (by decide)⟩

/-- All that a captured frame does. -/
theorem capturedFrameTaken_of_capture (c : Chan) (s : State) :
    CapturedFrameTaken c (s.latch.captured[c]'c.2) s (captureFrame c s) := by
  rw [captureFrame_eq]
  generalize (s.latch.captured[c]'c.2) = f
  have hmetered := metered_frame c f s
  have hmeters : ∀ q (d : Chan), (((metered c f s).meters.get q)[d]'d.2) = _ := foldl_meterFrame_get c f s
  obtain ⟨u, hu⟩ : ∃ u, metered c f s = u := ⟨_, rfl⟩
  rw [hu] at hmetered hmeters ⊢
  have hrest : (keepLast c f (advanceStep c f u)).meters = u.meters := by
    rw [keepLast, setChannel_frame _ _ _ .meters (by decide), advanceStep_frame c f u .meters (by decide)]
  have hch : (u.channels[c]'c.2) = (s.channels[c]'c.2) := by rw [hmetered .channels (by decide)]
  refine ⟨fun hnone => ?_, fun st hst hno hlt => ?_, fun st hst hends hequal => ?_, fun st hst hends hnew => ?_,
    fun p d hd => ?_, fun p => ?_⟩
  · rw [advanceStep_none (by rw [hch]; exact hnone)]
    have hsame : SameExcept [.channels, .meters] s (keepLast c f u) :=
      (hmetered.mono (by simp)).trans ((setChannel_frame _ _ _).mono (by simp))
    refine ⟨keepLast_channels ?_, hsame .tracks (by decide), hsame .journal (by decide), hsame .faults (by decide)⟩
    rw [hmetered .channels (by decide), vset_self]
  · rw [advanceStep_waits (by rw [hch]; exact hst) (by rw [hch]; exact hno) hlt, hch]
    exact captured_record hmetered
  · rw [advanceStep_applies (by rw [hch]; exact hst) (by rw [hch]; exact hends), applyStep_same (by rw [hch]; exact hequal),
      hch]
    exact captured_record hmetered
  · obtain ⟨a, ha⟩ : ∃ a, applyStep c st u = a := ⟨_, rfl⟩
    obtain ⟨hchannels, hother, htracks, hjournal, hreport⟩ :=
        applyStep_new (c := c) (st := st) (s := u) (by rw [hch]; exact hnew)
    rw [ha] at hchannels hother htracks hjournal hreport
    rw [advanceStep_applies (by rw [hch]; exact hst) (by rw [hch]; exact hends), ha]
    rw [hch, hmetered .channels (by decide)] at hchannels
    rw [hmetered .tracks (by decide)] at hother
    rw [hmetered .tracks (by decide), hmetered .owners (by decide)] at htracks
    rw [hmetered .journal (by decide), hmetered .owners (by decide)] at hjournal
    have hkept : SameExcept [.channels] a (keepLast c f a) := setChannel_frame _ _ _
    have hreported : OnlyConditionsReported s a :=
      hreport.from_same (hmetered .faults (by decide)) fun p => conditionsOf_frame hmetered p (by decide)
    refine ⟨keepLast_channels hchannels, ?_, ?_, ?_, hreported.of_same hkept⟩
    · rw [hkept .tracks (by decide)]
      exact hother
    · rw [hkept .tracks (by decide)]
      exact htracks
    · exact (hkept .journal (by decide)).trans hjournal
  · rw [hrest, hmeters, if_neg hd]
  · rw [hrest, hmeters, if_pos rfl, meterFrame_eq]

/-- What a captured frame does, seen from before its boundary's first work and after its mark. -/
theorem CapturedFrameTaken.from_work {c : Chan} {f : SampleFrame} {w : Work} {s before t : State}
    (h : CapturedFrameTaken c f before t) (hbefore : SameExcept [.clock, .latch] s before)
    (hsource : ∀ p, conditionsOf before p = conditionsOf s p) : CapturedFrameTaken c f s (markTaken w t) := by
  have hmark := markTaken_frame w t
  unfold CapturedFrameTaken at h
  rw [hbefore .channels (by decide), hbefore .tracks (by decide), hbefore .journal (by decide),
    hbefore .faults (by decide), hbefore .owners (by decide), hbefore .meters (by decide)] at h
  obtain ⟨hnone, hwaits, hsame, hnew, hother, hmeters⟩ := h
  exact ⟨hnone, hwaits, hsame, fun st hst hends hne => by
    obtain ⟨hchannels, htracks, hrecords, hjournal, hreport⟩ := hnew st hst hends hne
    exact ⟨hchannels, htracks, hrecords, hjournal, (hreport.of_same hmark).from_same (hbefore .faults (by decide)) hsource⟩,
    hother, hmeters⟩

/-- FORCED_STEP (R78). -/
theorem forcedStep_taken (c : Chan) (f : SampleFrame) (st : Step) (s : State) (hnot : NotYetTaken (.capture c) s)
    (hst : (s.channels[c]'c.2).pending = some st) (hwaited : st.waited = 59)
        (hno : ¬ HasCrossing (s.channels[c]'c.2).last f) :
    ∃ t, exec (.forcedStep c f) s = .next t
      ∧ CapturedFrameTaken c f s t
      ∧ t.latch = { s.latch with captured := vset s.latch.captured c f, taken := .capture c :: s.latch.taken }
      ∧ t.clock = clockAtWork s
      ∧ SameExcept [.channels, .tracks, .journal, .meters, .latch, .clock, .faults] s t := by
  have hhappens : forcedNow c f s = true := by
    unfold forcedNow
    simp only [hst, Bool.and_eq_true, Bool.not_eq_true', decide_eq_true_eq]
    exact ⟨Bool.eq_false_iff.mpr fun h => hno ((hasCrossing_iff _ _).mp h), by omega⟩
  have he := exec_unit (c := .forcedStep c f) (w := .capture c) (latch := latchCapture c f) (by rfl) hnot hhappens rfl
  let before := latchCapture c f (s.withClock (clockAtWork s))
  have hbefore : SameExcept [.clock, .latch] s before :=
    ((withClock_frame _ s).mono (by simp)).trans ((withLatch_frame _ _).mono (by simp))
  have htaken : CapturedFrameTaken c f before (captureFrame c before) := by
    have h := capturedFrameTaken_of_capture c before
    rwa [show (before.latch.captured[c]'c.2) = f from (vset_get _ _ _ _).trans (if_pos rfl)] at h
  have hwork := captureFrame_frame c before
  have hmark := markTaken_frame (.capture c) (captureFrame c before)
  refine ⟨_, he, htaken.from_work hbefore ?_, ?_, ?_, ?_⟩
  · exact conditionsOf_same (hsource := clockAtWork_source s)
  · rw [markTaken_latch, show workEffect (.capture c) before = captureFrame c before from rfl, hwork .latch (by decide)]
    rfl
  · exact (hmark .clock (by decide)).trans (hwork .clock (by decide))
  · exact (hbefore.mono (by simp)).trans ((hwork.mono (by simp)).trans (hmark.mono (by simp)))

/-- Settles O26. -/
theorem forcedStepAppliesThePendingStep : Obligations.ForcedStepAppliesThePendingStep :=
  ⟨hasCrossing_iff,
    fun c s => ⟨capturedFrameTaken_of_capture c s, (captureFrame_frame c s).mono (by decide)⟩, forcedStep_taken⟩

end Sys2Proof.Safety
end

section
/-! PROOFS. The boundary scores of a path that stays with its port (R5, R7). -/

namespace Sys2Proof.Safety
open Sys2Proof.Machine
section
variable {p : Port} {x : PathName} {s : State}

/-! ## The score of each state -/

theorem scorePath_rests (h : (pathRec s p x).state = .dark ∨ (pathRec s p x).state = .disabled) : scorePath p x s = s := by
  unfold scorePath
  rcases h with h | h <;> rw [h]

theorem scorePath_acquire (h : (pathRec s p x).state = .acquire) : scorePath p x s = settle (scoreAcquire p x s) := by
  unfold scorePath
  rw [h]

theorem scorePath_carrying (h : Carrying p x s) : scorePath p x s = settle (scoreCarrying p x s) := by
  unfold scorePath
  rcases h with h | h <;> rw [show (pathRec s p x).state = _ from h]

/-! ## A path in ACQUIRE (R5) -/

set_option Elab.async false in
theorem scoreAcquire_out (harrived : (pathRec s p x).arrived = false) (h : (pathRec s p x).missRun = 11) :
    scoreAcquire p x s = setPath p x (bareReceiver .dark (pathRec s p x).rx) s :=
  (if_pos (by rw [harrived]; rfl)).trans (if_pos (by omega))

theorem scoreAcquire_miss (harrived : (pathRec s p x).arrived = false) (h : (pathRec s p x).missRun < 11) :
    scoreAcquire p x s = setPath p x
      (clearInterval { pathRec s p x with goodCount := 0, missRun := (pathRec s p x).missRun + 1 }) s :=
  (if_pos (by rw [harrived]; rfl)).trans (if_neg (by omega))

theorem scoreAcquire_suspect (harrived : (pathRec s p x).arrived = true) (h : (pathRec s p x).suspect = true) :
    scoreAcquire p x s = setPath p x (clearInterval { pathRec s p x with goodCount := 0, missRun := 0 }) s :=
  (if_neg (by rw [harrived]; decide)).trans (if_pos h)

section
variable (harrived : (pathRec s p x).arrived = true) (hgood : (pathRec s p x).suspect = false)
include harrived hgood

theorem scoreAcquire_good (h : (pathRec s p x).goodCount < 47) : scoreAcquire p x s = setPath p x
    (clearInterval { pathRec s p x with goodCount := (pathRec s p x).goodCount + 1, missRun := 0 }) s :=
  (if_neg (by rw [harrived]; decide)).trans ((if_neg (by rw [hgood]; decide)).trans (if_neg (by omega)))

theorem scoreAcquire_up (h : (pathRec s p x).goodCount = 47) : scoreAcquire p x s = goUp p x 48 s := by
  have hup : scoreAcquire p x s = goUp p x ((pathRec s p x).goodCount + 1) s :=
    (if_neg (by rw [harrived]; decide)).trans ((if_neg (by rw [hgood]; decide)).trans (if_pos (by omega)))
  rw [hup, h]

end

/-! ## A carrying path (R6, R7) -/

/-- The miss run once a boundary has been scored. -/
def missesScored (r : PathRec) : Nat := if r.arrived then 0 else r.missRun + 1

theorem missesScored_lt {r : PathRec} (h : r.arrived = true ∨ r.missRun < 11) : missesScored r < 12 := by
  unfold missesScored
  split
  · decide
  · rename_i hno
    have := h.resolve_left hno
    omega

theorem scoreCarrying_dark (harrived : (pathRec s p x).arrived = false) (h : (pathRec s p x).missRun = 11) :
    scoreCarrying p x s = leaveCarrying p x (bareReceiver .dark (pathRec s p x).rx) s :=
  if_pos (by rw [harrived, h]; decide)

theorem scoreCarrying_stays (h : (pathRec s p x).arrived = true ∨ (pathRec s p x).missRun < 11) :
    scoreCarrying p x s = setPath p x
      (clearInterval (advanceBlock { pathRec s p x with missRun := missesScored (pathRec s p x) })) s :=
  if_neg (Nat.not_le.mpr (missesScored_lt h))

section
variable (h : (pathRec s p x).arrived = true ∨ (pathRec s p x).missRun < 11)
include h

theorem scoreCarrying_counts (hblock : (pathRec s p x).blockCount < 255) :
    scoreCarrying p x s = setPath p x (clearInterval { pathRec s p x with
      missRun := missesScored (pathRec s p x), blockCount := (pathRec s p x).blockCount + 1 }) s :=
  (scoreCarrying_stays h).trans (congrArg (fun r => setPath p x (clearInterval r) s) (if_neg (by dsimp only; omega)))

theorem scoreCarrying_judges (hblock : (pathRec s p x).blockCount = 255) :
    scoreCarrying p x s = setPath p x (clearInterval { pathRec s p x with
      state := if 8 ≤ (pathRec s p x).suspectCount then .degraded else .up
      missRun := missesScored (pathRec s p x), blockCount := 0, suspectCount := 0 }) s :=
  (scoreCarrying_stays h).trans (congrArg (fun r => setPath p x (clearInterval r) s) (if_pos (by dsimp only; omega)))

end

end

/-! ## A receiver replaced and the conditions reported -/

theorem settled_setPath (p : Port) (x : PathName) (r : PathRec) (s : State) :
    let t := settle (setPath p x r s)
    t.paths = pathsWith p x r s ∧ OnlyConditionsReported s t ∧ SameExcept [.paths, .faults] s t :=
  ⟨settle_frame (setPath p x r s) .paths (by decide), onlyConditionsReported_settle rfl,
    (setPath_frame _ _ _ _).seq (settle_frame _)⟩

/-- A path's unit of work that only replaces its receiver. -/
theorem exec_scored {c : Instr} {p : Port} {x : PathName} {happens : State → Bool} {r : PathRec} {s : State}
    (hexec : exec c s = whileRunning s (oneUnit (.score p x) happens id)) (hnot : NotYetTaken (.score p x) s)
    (hhappens : happens s = true)
    (hscored : scorePath p x (s.withClock (clockAtWork s)) = settle (setPath p x r (s.withClock (clockAtWork s)))) :
    ∃ t, exec c s = .next t ∧ t.paths = pathsWith p x r s ∧ t.clock = clockAtWork s ∧ Marked (.score p x) s t
      ∧ OnlyConditionsReported s t ∧ SameExcept [.paths, .clock, .latch, .faults] s t := by
  have hwork : workEffect (.score p x) (s.withClock (clockAtWork s)) = _ := hscored
  obtain ⟨hpaths, hreport, hframe⟩ := settled_setPath p x r (s.withClock (clockAtWork s))
  obtain ⟨he, hmarked, hsame⟩ := exec_unit_same hexec hnot hhappens (changed := [.paths, .faults])
      (by rw [hwork]; exact hframe)
  rw [hwork] at he hmarked hsame
  have hmark := markTaken_frame (.score p x) (settle (setPath p x r (s.withClock (clockAtWork s))))
  exact ⟨_, he, (hmark .paths (by decide)).trans hpaths, (hmark .clock (by decide)).trans (hframe .clock (by decide)),
    hmarked, (hreport.of_same hmark).from_work, hsame.mono (by simp)⟩

set_option Elab.async false in
/-- The scores that count and take the path nowhere. -/
theorem score_counts (p : Port) (x : PathName) (s : State) :
    let r := (s.paths.get p).get x
    let t := workEffect (.score p x) s
    let scoredAs (r' : PathRec) : Prop :=
      t.paths = pathsWith p x { r' with arrived := false, good := false, suspect := false } s
        ∧ OnlyConditionsReported s t ∧ SameExcept [.paths, .faults] s t
    (r.state = .dark ∨ r.state = .disabled → t = s)
    ∧ (r.state = .acquire → r.arrived = false → r.missRun < 11 →
        scoredAs { r with goodCount := 0, missRun := r.missRun + 1 })
    ∧ (r.state = .acquire → r.arrived = true → r.suspect = true → scoredAs { r with goodCount := 0, missRun := 0 })
    ∧ (r.state = .acquire → r.arrived = true → r.suspect = false → r.goodCount < 47 →
        scoredAs { r with goodCount := r.goodCount + 1, missRun := 0 })
    ∧ (Carrying p x s → r.arrived = true ∨ r.missRun < 11 → r.blockCount < 255 →
        scoredAs { r with
          missRun := if r.arrived then 0 else r.missRun + 1, blockCount := r.blockCount + 1 }) := by
  intro r t scoredAs
  have hset {r' : PathRec} (h : scorePath p x s = settle (setPath p x (clearInterval r') s)) : scoredAs r' := by
    have ht : t = settle (setPath p x (clearInterval r') s) := h
    have hsettled := settled_setPath p x (clearInterval r') s
    rw [← ht] at hsettled
    exact hsettled
  refine ⟨scorePath_rests, fun hstate harrived hmiss => hset ?_, fun hstate harrived hsuspect => hset ?_,
    fun hstate harrived hgood hcount => hset ?_, fun hcarrying hstays hblock => hset ?_⟩
  · rw [scorePath_acquire hstate, scoreAcquire_miss harrived hmiss]
    rfl
  · rw [scorePath_acquire hstate, scoreAcquire_suspect harrived hsuspect]
    rfl
  · rw [scorePath_acquire hstate, scoreAcquire_good harrived hgood hcount]
    rfl
  · rw [scorePath_carrying hcarrying, scoreCarrying_counts hstays hblock]
    rfl

/-- Settles O11. -/
theorem acquiringPathGoesDarkAndDegradeBlockIsJudged : Obligations.AcquiringPathGoesDarkAndDegradeBlockIsJudged := by
  refine ⟨fun p x s hnot => ⟨fun hstate harrived hmiss => ?_, fun hcarrying hblock hstays => ?_⟩, score_counts⟩
  · have hscored : scorePath p x (s.withClock (clockAtWork s)) = _ :=
      (scorePath_acquire (s := s.withClock (clockAtWork s)) hstate).trans
        (congrArg settle (scoreAcquire_out (s := s.withClock (clockAtWork s)) harrived hmiss))
    have hhappens : missesOut (pathRec s p x) = true := by
      rw [missesOut, show (pathRec s p x).state = _ from hstate, show (pathRec s p x).arrived = _ from harrived,
        show (pathRec s p x).missRun = _ from hmiss]
      rfl
    exact exec_scored (c := .acquireMissDark p x) (by rfl) hnot hhappens hscored
  · have hscored : scorePath p x (s.withClock (clockAtWork s)) = _ :=
      (scorePath_carrying (s := s.withClock (clockAtWork s)) hcarrying).trans
        (congrArg settle (scoreCarrying_judges (s := s.withClock (clockAtWork s)) hstays hblock))
    have hdark : goesDark (pathRec s p x) = false := by
      rw [goesDark, Bool.eq_false_iff]
      simp only [ne_eq, Bool.and_eq_true, Bool.not_eq_true', decide_eq_true_eq]
      rintro ⟨⟨-, hno⟩, hmiss⟩
      rcases hstays with h | h
      · exact Bool.false_ne_true (hno.symm.trans h)
      · change (pathRec s p x).missRun < 11 at h
        omega
    have hhappens : judgesBlock (pathRec s p x) = true := by
      rw [judgesBlock, hdark, carries_iff.mpr hcarrying, show (pathRec s p x).blockCount = _ from hblock]
      rfl
    exact exec_scored (c := .degradeBlockJudged p x) (by rfl) hnot hhappens hscored

end Sys2Proof.Safety
end

section
/-! PROOFS. A path that goes DARK and a port that goes OFFLINE (R6, R12, R25, R30). -/

namespace Sys2Proof.Safety
open Sys2Proof.Machine
/-! ## What availability and following are judged from (R141, R142) -/

theorem available_of_same {s t : State} (hpaths : t.paths = s.paths) (hmerges : t.merges = s.merges) (src : Option Source) :
    available t src = available s src := by
  cases src with
  | none => rfl
  | some src => rw [available, available, hmerges, online_of_paths hpaths]

theorem followOutput_congr {old old' s s' : State} (hold : ∀ src, available old' src = available old src)
    (h : ∀ src, available s' src = available s src) (o : Output) : followOutput old' s' o = followOutput old s o := by
  rw [followOutput_eq, followOutput_eq, hold, hold, h, h]

/-! ## A port that goes OFFLINE (R12) -/

theorem offline_eq (m : Merge) : m.offline = offlineForm m := by
  rw [Merge.offline, offlineForm]
  exact congrArg (fun slots => { m with slots := slots, hunting := false, emptyRun := 0, heldRet := Vector.replicate 16 0
                                        heldTalk := 0, missRun := 4, mask := 0, talkValid := false }) rfl

/-- A port's own blocks in their OFFLINE form, before the outputs and the selection follow. -/
def emptied (p : Port) (s : State) : State :=
  let s := setMerge p (s.merges.get p).offline s
  let s := setLane p { asm := none, queue := [], sent := 0 } s
  let s := setMonitor p { s.clock.monitors.get p with state := .unusable, run := 0, ref := none, interval := .none } s
  s.withTalkMask (s.talkMask.set p 0)

theorem goOffline_eq (old : State) (p : Port) (s : State) :
    goOffline old p s = settle (reselect (followOutputs old (emptied p s))) := rfl

theorem emptied_fields (p : Port) (s : State) :
    (emptied p s).merges = s.merges.set p (offlineForm (s.merges.get p))
    ∧ (emptied p s).lanes = s.lanes.set p { asm := none, queue := [], sent := 0 }
    ∧ (emptied p s).talkMask = s.talkMask.set p 0
    ∧ (emptied p s).clock = { s.clock with
        monitors := s.clock.monitors.set p { s.clock.monitors.get p with state := .unusable, run := 0, ref := none, interval := .none } } := by
  rw [← offline_eq]
  exact ⟨rfl, rfl, rfl, rfl⟩

theorem emptied_frame (p : Port) (s : State) : SameExcept [.merges, .lanes, .clock, .talkMask] s (emptied p s) := by
  unfold emptied
  dsimp only
  exact SameExcept.seq (l := [.merges, .lanes, .clock])
    (SameExcept.seq (l := [.merges, .lanes]) ((setMerge_frame _ _ _).seq (setLane_frame _ _ _)) (setMonitor_frame _ _ _))
    (withTalkMask_frame _ _)

/-- All that a port's going OFFLINE does. -/
theorem goOffline_eff (old : State) (p : Port) (s : State) :
    let t := goOffline old p s
    t.merges = s.merges.set p (offlineForm (s.merges.get p))
    ∧ t.lanes = s.lanes.set p { asm := none, queue := [], sent := 0 }
    ∧ t.talkMask = s.talkMask.set p 0
    ∧ t.clock.monitors = s.clock.monitors.set p
        { s.clock.monitors.get p with state := .unusable, run := 0, ref := none, interval := .none }
    ∧ t.clock.source = firstGood s.settings.clockPriority t.clock
    ∧ (t.clock.switched = true ↔ s.clock.switched = true ∨ t.clock.source ≠ s.clock.source)
    ∧ (∀ i : OutId, (t.outputs[i]'i.2) = followOutput old t (s.outputs[i]'i.2))
    ∧ ∃ u, t = settle u ∧ u.faults = s.faults := by
  rw [goOffline_eq]
  obtain ⟨hmerges, hlanes, htalk, hclock⟩ := emptied_fields p s
  have hemptied := emptied_frame p s
  generalize emptied p s = b at hmerges hlanes htalk hclock hemptied ⊢
  have hfollowed : SameExcept [.outputs] b (followOutputs old b) := followOutputs_frame old b
  have houtputs (i : OutId) := followOutputs_get old b i
  generalize followOutputs old b = f at hfollowed houtputs ⊢
  have hselected : SameExcept [.clock] f (reselect f) := reselect_frame f
  have hsource := reselect_source f
  have hswitched := reselect_switched f
  have hmonitors := reselect_monitors f
  generalize reselect f = u at hselected hsource hswitched hmonitors ⊢
  have hsettled := settle_frame u
  have hclockKept : (settle u).clock = u.clock := hsettled .clock (by decide)
  have hsame : SameExcept [.outputs, .clock, .faults] b (settle u) :=
    (hfollowed.mono (by simp)).trans ((hselected.mono (by simp)).trans (hsettled.mono (by simp)))
  refine ⟨(hsame .merges (by decide)).trans hmerges, (hsame .lanes (by decide)).trans hlanes,
    (hsame .talkMask (by decide)).trans htalk, ?_, ?_, ?_, fun i => ?_, u, rfl, ?_⟩
  · rw [hclockKept, hmonitors, hfollowed .clock (by decide), hclock]
  · rw [hclockKept, hsource, hfollowed .settings (by decide), hemptied .settings (by decide)]
  · rw [hclockKept, hswitched, hfollowed .clock (by decide), hclock]
  · rw [hsettled .outputs (by decide), hselected .outputs (by decide), houtputs, hemptied .outputs (by decide)]
    exact (followOutput_congr (fun _ => rfl)
      (available_of_same (hsame .paths (by decide)) (hsame .merges (by decide))) _).symm
  · rw [hselected .faults (by decide), hfollowed .faults (by decide), hemptied .faults (by decide)]

/-- A second report with nothing new to tell. -/
theorem onlyConditionsReported_settle_settle {s u : State} (hu : u.faults = s.faults) :
    OnlyConditionsReported s (settle (settle u)) := by
  refine onlyConditionsReported_twice hu rfl fun p => ?_
  rw [conditionsOf_settle]
  exact conditionsOf_within fun k hk => .inr hk

/-! ## A path that stops carrying its port (R6, R25) -/

section
variable {p : Port} {x : PathName} {s : State} {r : PathRec}

theorem online_left (hr : carries r = false) : online (setPath p x r s) p = true ↔ Carrying p (otherPath x) s := by
  rw [online_setPath_self, hr, Bool.false_or, carries_iff]

theorem leaveCarrying_last (hr : carries r = false) (hother : ¬ Carrying p (otherPath x) s) :
    leaveCarrying p x r s = goOffline s p (setPath p x r s) :=
  if_neg fun h => hother ((online_left hr).mp h)

section
variable (hr : carries r = false) (hother : Carrying p (otherPath x) s)
include hr hother

set_option Elab.async false in
theorem leaveCarrying_spare (href : (s.clock.monitors.get p).ref ≠ some x) :
    leaveCarrying p x r s = setPath p x r s :=
  (if_pos ((online_left hr).mpr hother)).trans (if_neg fun h => href (beq_iff_eq.mp h))

theorem leaveCarrying_reference (href : (s.clock.monitors.get p).ref = some x) :
    leaveCarrying p x r s = moveReference p (otherPath x) (setPath p x r s) :=
  (if_pos ((online_left hr).mpr hother)).trans (if_pos (beq_iff_eq.mpr href))

end

end

theorem moveReference_clock (p : Port) (y : PathName) (s : State) : (moveReference p y s).clock =
    { source := s.clock.source
      switched := s.clock.switched || s.clock.source == some p
      monitors := s.clock.monitors.set p { s.clock.monitors.get p with
        ref := some y, interval := if (s.signal.get p).get y then .awaiting else .none } } := rfl

/-- A path that leaves its port to the other path touches the clock at most. -/
theorem leaveCarrying_spares {p : Port} {x : PathName} {s : State} {r : PathRec} (hr : carries r = false)
    (hother : Carrying p (otherPath x) s) : SameExcept [.paths, .clock] s (leaveCarrying p x r s) := by
  by_cases href : (s.clock.monitors.get p).ref = some x
  · rw [leaveCarrying_reference hr hother href]
    exact (setPath_frame _ _ _ _).seq (moveReference_frame _ _ _)
  · rw [leaveCarrying_spare hr hother href]
    exact (setPath_frame _ _ _ _).mono (by simp)

/-- What a path's leaving reports. -/
theorem leaveCarrying_reported {p : Port} {x : PathName} {s : State} {r : PathRec} (hr : carries r = false) :
    OnlyConditionsReported s (settle (leaveCarrying p x r s)) := by
  by_cases hother : Carrying p (otherPath x) s
  · exact onlyConditionsReported_settle (leaveCarrying_spares hr hother .faults (by decide))
  · rw [leaveCarrying_last hr hother]
    obtain ⟨-, -, -, -, -, -, -, u, hu, hfaults⟩ := goOffline_eff s p (setPath p x r s)
    rw [hu]
    exact onlyConditionsReported_settle_settle (hfaults.trans (setPath_frame p x r s .faults (by decide)))

set_option Elab.async false in
/-- Settles O12. -/
theorem pathDarkTakesItsPortOffline : Obligations.PathDarkTakesItsPortOffline := by
  intro p x s hnot r y k m hcarrying harrived hmiss
  obtain ⟨before, hbefore⟩ : ∃ b, s.withClock k = b := ⟨_, rfl⟩
  have hclock : before.clock = k := by rw [← hbefore]; rfl
  have hopen : SameExcept [.clock] s before := hbefore ▸ withClock_frame k s
  have hcarry (z : PathName) : Carrying p z before ↔ Carrying p z s := by
    rw [Carrying, Carrying, hopen .paths (by decide)]
  have hreceiver : pathRec before p x = r := by rw [pathRec, hopen .paths (by decide)]
  let dark := bareReceiver .dark r.rx
  have hbare : carries dark = false := rfl
  have hhappens : goesDark (pathRec s p x) = true := by
    rw [goesDark, carries_iff.mpr hcarrying, show (pathRec s p x).arrived = _ from harrived,
      show (pathRec s p x).missRun = _ from hmiss]
    rfl
  have hwork : workEffect (.score p x) before = settle (leaveCarrying p x dark before) := by
    refine (scorePath_carrying ((hcarry x).mpr hcarrying)).trans (congrArg settle ?_)
    rw [scoreCarrying_dark (by rw [hreceiver]; exact harrived) (by rw [hreceiver]; exact hmiss), hreceiver]
  obtain ⟨he, hmarked, hsame⟩ := exec_unit_same (c := .pathDark p x) (w := .score p x) (by rfl) hnot hhappens
    (changed := .paths :: offlineBlocks) (hbefore ▸ hwork ▸ ((leaveCarrying_frame _ _ _ _).seq (settle_frame _)))
  rw [show s.withClock (clockAtWork s) = before from hbefore, hwork] at he hmarked hsame
  have hpaths := leaveCarrying_paths p x dark before
  have hreport := leaveCarrying_reported (p := p) (x := x) (s := before) hbare
  have honline := leaveCarrying_online p x dark before p
  have hsettled := settle_frame (leaveCarrying p x dark before)
  have hmark := markTaken_frame (.score p x) (settle (leaveCarrying p x dark before))
  have hend : SameExcept [.faults, .latch] (leaveCarrying p x dark before)
      (markTaken (.score p x) (settle (leaveCarrying p x dark before))) :=
    (hsettled.mono (by simp)).trans (hmark.mono (by simp))
  refine ⟨_, he, ?_, hmarked, ?_, fun hspare => ⟨fun href => ?_, fun href => ?_, ?_⟩, fun hlast => ?_⟩
  · rw [hend .paths (by decide), hpaths, pathsWith, hopen .paths (by decide)]
    rfl
  · refine ((hreport.of_same hmark).from_same (hopen .faults (by decide)) ?_)
    rw [← hbefore]
    exact conditionsOf_same (hsource := clockAtWork_source s)
  · rw [hend .clock (by decide), leaveCarrying_spare hbare ((hcarry y).mpr hspare) (by rw [hclock]; exact href),
      setPath_frame p x dark before .clock (by decide), hclock]
  · rw [hend .clock (by decide), leaveCarrying_reference hbare ((hcarry y).mpr hspare) (by rw [hclock]; exact href),
      moveReference_clock, setPath_frame p x dark before .clock (by decide),
      setPath_frame p x dark before .signal (by decide), hclock, hopen .signal (by decide), show k.source
          = s.clock.source from clockAtWork_source s]
  · exact (hopen.mono (by simp)).trans
      (((leaveCarrying_spares hbare ((hcarry y).mpr hspare)).mono (by simp)).trans (hend.mono (by simp)))
  · have hleft : leaveCarrying p x dark before = goOffline before p (setPath p x dark before) :=
      leaveCarrying_last hbare fun h => hlast ((hcarry y).mp h)
    have hset : SameExcept [.paths] before (setPath p x dark before) := setPath_frame _ _ _ _
    obtain ⟨hmerges, hlanes, htalk, hmonitors, hsource, hswitched, houtputs, -⟩ :=
      goOffline_eff before p (setPath p x dark before)
    rw [← hleft] at hmerges hlanes htalk hmonitors hsource hswitched houtputs
    rw [hset .merges (by decide), hopen .merges (by decide)] at hmerges
    rw [hset .lanes (by decide), hopen .lanes (by decide)] at hlanes
    rw [hset .talkMask (by decide), hopen .talkMask (by decide)] at htalk
    rw [hset .clock (by decide), hclock] at hmonitors hswitched
    rw [hset .settings (by decide), hopen .settings (by decide)] at hsource
    rw [hset .outputs (by decide), hopen .outputs (by decide)] at houtputs
    rw [← hend .clock (by decide)] at hmonitors hsource hswitched
    rw [← hend .outputs (by decide)] at houtputs
    refine ⟨?_, (hend .merges (by decide)).trans hmerges, (hend .lanes (by decide)).trans hlanes,
      (hend .talkMask (by decide)).trans htalk, hmonitors, hsource, ?_, fun i => (houtputs i).trans ?_, hsame.mono (by simp)⟩
    · rw [online_of_paths (hend .paths (by decide)), honline, Bool.eq_false_iff]
      exact fun h => hlast ((hcarry y).mp ((online_left hbare).mp h))
    · rw [hswitched, show k.source = s.clock.source from clockAtWork_source s]
    · exact followOutput_congr (available_of_same (hopen .paths (by decide)) (hopen .merges (by decide)))
        (fun src => (available_of_same (hend .paths (by decide)) (hend .merges (by decide)) src).symm) _

end Sys2Proof.Safety
end

section
/-! PROOFS. Copies that slip or re-centre the merge window (R15, R21). -/

namespace Sys2Proof.Safety
open Sys2Proof.Machine
theorem recentre_eq (c : Copy) (m : Merge) : recentre c m = recentredOn c m := by
  have hslots : vset (Vector.replicate 4 (none : Option Copy)) (2 : Fin 4) (some c) = #v[none, none, some c, none] := rfl
  rw [recentre, recentredOn, hslots]

/-- The slots once the window has slipped until an early copy lies at distance 3 (R15). -/
theorem slipTo_eq {d : Nat} {c : Copy} {m : Merge} (hd : d = (c.frameNo - m.playNo).toNat) (h4 : 4 ≤ d) :
    slipTo d c m =
      { m with
        slots := Vector.ofFn fun i : Fin 4 =>
          if i = 3 then some c else if h : i.val + (d - 3) < 4 then m.slots[i.val + (d - 3)] else none
        playNo := c.frameNo - 3
        slips := m.slips + BitVec.ofNat 16 (d - 3) } := by
  have hslots : vset (advance (d - 3) m).slots 3 (some c) = Vector.ofFn fun i : Fin 4 =>
      if i = 3 then some c else if h : i.val + (d - 3) < 4 then m.slots[i.val + (d - 3)] else none := by
    ext i hi
    rw [vset_getElem, Vector.getElem_ofFn]
    by_cases h3 : i = 3
    · subst h3
      rfl
    · have hne : (⟨i, hi⟩ : Fin 4) ≠ 3 := fun h => h3 (congrArg Fin.val h)
      rw [if_neg fun h => h3 h.symm, if_neg hne]
      simp only [advance, Vector.getElem_ofFn]
  have hplay : (advance (d - 3) m).playNo = c.frameNo - 3 := by
    have hframe : c.frameNo = m.playNo + BitVec.ofNat 12 (d - 3) + 3 := by
      rw [BitVec.add_assoc, show (3 : BitVec 12) = BitVec.ofNat 12 3 from rfl, ← BitVec.ofNat_add,
          Nat.sub_add_cancel (by omega), hd]
      exact frameNo_of_distance m c
    rw [hframe, BitVec.add_sub_cancel]
    rfl
  have hadvance : advance (d - 3) m = { m with slots := (advance (d - 3) m).slots, playNo :=
      (advance (d - 3) m).playNo } := rfl
  rw [slipTo, hslots, hadvance, hplay]

section
variable {p : Port} {c : Copy} {s : State}

theorem placeCopy_of_early (hrun : (s.merges.get p).hunting = false)
    (h4 : 4 ≤ (c.frameNo - (s.merges.get p).playNo).toNat) (hlt : (c.frameNo - (s.merges.get p).playNo).toNat < 2048) :
    placeCopy p c s =
      raiseAll .slip (setMerge p (slipTo (c.frameNo - (s.merges.get p).playNo).toNat c (s.merges.get p)) s) := by
  simp only [placeCopy, distance, hrun, Nat.not_lt.mpr h4, hlt, Bool.false_eq_true, if_false, if_true, dite_false]

theorem placeCopy_of_hunting (h : (s.merges.get p).hunting = true) :
    placeCopy p c s = setMerge p (recentredOn c (s.merges.get p)) s := by
  rw [← recentre_eq]
  exact if_pos h

end

/-- Settles O8. -/
theorem earlyCopySlipsAndHuntingCopyRecentresTheWindow : Obligations.EarlyCopySlipsAndHuntingCopyRecentresTheWindow := by
  refine ⟨fun p x f s ha hc => ?_, fun p x f s ha hc hhunting => ?_⟩
  · intro c m d hrun hd
    have hplaced : placeCopy p c (passing p x c s) = raiseAll .slip (setMerge p (slipTo d c m) (passing p x c s)) :=
      placeCopy_of_early (s := passing p x c s) hrun hd.1 (Nat.lt_succ_of_le hd.2)
    refine ⟨_, exec_frameArrival_of_carrying ha hc, ?_, passedOn_placeCopy .., ?_⟩
    · rw [hplaced, settle_merges, raiseAll_merges, setMerge_merges, PerPort.get_set_self]
      exact slipTo_eq rfl hd.1
    · rw [hplaced]
      exact eventReported_settle (r := setMerge p (slipTo d c m) (passing p x c s)) (scope := fun _ => true)
        (fun _ => by simp) rfl rfl rfl
  · exact frameArrival_writes_window ha hc (placeCopy_of_hunting (s := passing p x (copyOf x f) s) hhunting)

end Sys2Proof.Safety
end

section
/-! PROOFS. A path that goes UP and the port that it brings ONLINE (R5, R11, R25, R30). -/

namespace Sys2Proof.Safety
open Sys2Proof.Machine
/-! ## A report of an event, seen from states that differ in blocks it does not read -/

theorem EventReported.of_same {l : List Block} {P : Port → Prop} {k : FaultKind} {s t u : State}
    (h : EventReported P k s t) (hsame : SameExcept l t u) (hfaults : .faults ∉ l := by decide)
    (hsettings : .settings ∉ l := by decide) (hconditions : ∀ b ∈ conditionBlocks, b ∉ l := by decide) :
    EventReported P k s u := by
  obtain ⟨hports, hactive, hstretch, hlines⟩ := h
  have hf : u.faults = t.faults := hsame .faults hfaults
  have hs : u.settings = t.settings := hsame .settings hsettings
  have hc (p : Port) : conditionsOf u p = conditionsOf t p := conditionsOf_frame hsame p hconditions
  refine ⟨fun p => ?_, ?_, ?_, fun l => ?_⟩
  · simp only [reportable, hf, hc]
    exact hports p
  · simp only [hf, hc]
    exact hactive
  · rw [hf]
    exact hstretch
  · rw [hf, hlines, lineDriven_congr (congrArg Faults.stretch hf) (congrArg Faults.active hf) hs]

set_option Elab.async false in
theorem EventReported.from_same {P : Port → Prop} {k : FaultKind} {r s t : State} (h : EventReported P k s t)
    (hf : s.faults = r.faults) (hsettings : s.settings = r.settings) (hc : ∀ p, conditionsOf s p = conditionsOf r p) :
    EventReported P k r t := by
  obtain ⟨hports, hactive, hstretch, hlines⟩ := h
  simp only [reportable, hf, hc, hsettings] at hports hactive hstretch
  exact ⟨hports, hactive, hstretch, hlines⟩

/-! ## A placement -/

/-- The merge once a copy has been placed in it (R14 to R16, R21). -/
def placedIn (c : Copy) (m : Merge) : Merge :=
  if m.hunting then recentre c m
  else if h : distance m c.frameNo < 4 then placeInSlot ⟨distance m c.frameNo, h⟩ c m
  else if distance m c.frameNo < 2048 then slipTo (distance m c.frameNo) c m
  else { m with lates := m.lates + 1 }

theorem placeCopy_merges (p : Port) (c : Copy) (s : State) :
    (placeCopy p c s).merges = s.merges.set p (placedIn c (s.merges.get p)) := by
  unfold placeCopy placedIn
  dsimp only
  split
  · rfl
  · split
    · rfl
    · split
      · rw [raiseAll_merges, setMerge_merges]
      · rfl

/-- A placement that is no slip reports nothing of its own (R15). -/
theorem placeCopy_faults {p : Port} {c : Copy} {s : State} (h : (s.merges.get p).hunting = true
    ∨ (c.frameNo - (s.merges.get p).playNo).toNat < 4 ∨ 2048 ≤ (c.frameNo - (s.merges.get p).playNo).toNat) :
    (placeCopy p c s).faults = s.faults := by
  unfold placeCopy distance
  dsimp only
  split
  · rfl
  · rename_i hrun
    split
    · rfl
    · rename_i h4
      rw [if_neg (by have := (h.resolve_left hrun).resolve_left h4; omega)]
      rfl

/-! ## A port that comes ONLINE (R11) -/

/-- All that a port's coming ONLINE does. -/
theorem goOnline_eff (p : Port) (x : PathName) (c : Copy) (s : State) :
    let t := goOnline p x (some c) s
    t.merges = s.merges.set p (recentredOn c (s.merges.get p))
    ∧ t.clock.monitors = s.clock.monitors.set p { s.clock.monitors.get p with
        state := .checking, run := 0, ref := some x, interval := if (s.signal.get p).get x then .awaiting else .none }
    ∧ t.clock.source = firstGood s.settings.clockPriority t.clock
    ∧ (t.clock.switched = true ↔ s.clock.switched = true ∨ t.clock.source ≠ s.clock.source)
    ∧ t.latch = { s.latch with cameUp := s.latch.cameUp.set p true }
    ∧ t.faults = s.faults := by
  let placed := setMerge p (recentre c (s.merges.get p)) s
  let started := setMonitor p { s.clock.monitors.get p with
    state := .checking, run := 0, ref := some x, interval := if (s.signal.get p).get x then .awaiting else .none } placed
  let marked := started.withLatch { s.latch with cameUp := s.latch.cameUp.set p true }
  have hselected : SameExcept [.clock] marked (reselect marked) := reselect_frame marked
  have hswitched := reselect_switched marked
  refine ⟨?_, reselect_monitors marked, reselect_source marked, hswitched, hselected .latch (by decide),
    hselected .faults (by decide)⟩
  rw [← recentre_eq]
  exact hselected .merges (by decide)

/-! ## PATH_UP -/

section
variable {p : Port} {x : PathName} {c : Copy} {s : State}

theorem upReceiver_eq (n : Nat) : upReceiver p x n s = { bareReceiver .up (pathRec s p x).rx with goodCount := n } := rfl

theorem goUp_offline (h : online s p = false) (hacq : (pathRec s p x).acq = some c) (n : Nat) :
    goUp p x n s = goOnline p x (some c) (setPath p x (upReceiver p x n s) s) := by
  unfold goUp
  dsimp only
  rw [h, hacq]
  rfl

theorem goUp_online (h : online s p = true) (hacq : (pathRec s p x).acq = some c) (n : Nat) :
    goUp p x n s = placeCopy p c (setPath p x (upReceiver p x n s) s) := by
  unfold goUp
  dsimp only
  rw [h, hacq]
  rfl

end

set_option Elab.async false in
/-- Settles O10. -/
theorem pathUpBringsItsPortOnline : Obligations.PathUpBringsItsPortOnline := by
  intro p x c s hnot r k m hstate harrived hgood hcount hacq
  have hhappens : goesUp (pathRec s p x) = true := by
    rw [goesUp, show (pathRec s p x).state = _ from hstate, show (pathRec s p x).arrived = _ from harrived,
      show (pathRec s p x).suspect = _ from hgood, show (pathRec s p x).goodCount = _ from hcount]
    rfl
  have he := exec_unit (c := .pathUp p x) (w := .score p x) (latch := id) (by rfl) hnot hhappens rfl
  obtain ⟨before, hbefore⟩ : ∃ b, s.withClock (clockAtWork s) = b := ⟨_, rfl⟩
  have hclock : before.clock = k := by rw [← hbefore]; rfl
  have hopen : SameExcept [.clock] s before := hbefore ▸ withClock_frame k s
  have hconditions : ∀ q, conditionsOf before q = conditionsOf s q := by
    rw [← hbefore]
    exact conditionsOf_same (hsource := clockAtWork_source s)
  have hreceiver : pathRec before p x = r := by rw [pathRec, hopen .paths (by decide)]
  have honline : online before p = online s p := online_of_paths (hopen .paths (by decide)) p
  have hwork : workEffect (.score p x) before = settle (goUp p x 48 before) := by
    rw [show workEffect (.score p x) before = scorePath p x before from rfl,
        scorePath_acquire (by rw [hreceiver]; exact hstate),
      scoreAcquire_up (by rw [hreceiver]; exact harrived) (by rw [hreceiver]; exact hgood) (by rw [hreceiver]; exact hcount)]
  rw [id, hbefore, hwork] at he
  have hacq' : (pathRec before p x).acq = some c := by rw [hreceiver]; exact hacq
  have hset : SameExcept [.paths] before (setPath p x (upReceiver p x 48 before) before) := setPath_frame _ _ _ _
  have hup := goUp_frame p x 48 before
  have hpaths : (goUp p x 48 before).paths = pathsWith p x { bareReceiver .up r.rx with goodCount := 48 } s := by
    rw [goUp_paths, upReceiver_eq, hreceiver, pathsWith, hopen .paths (by decide)]
    rfl
  have hsettled := settle_frame (goUp p x 48 before)
  have hmark := markTaken_frame (.score p x) (settle (goUp p x 48 before))
  have hend : SameExcept [.faults, .latch] (goUp p x 48 before) (markTaken (.score p x) (settle (goUp p x 48 before))) :=
    (hsettled.mono (by simp)).trans (hmark.mono (by simp))
  refine ⟨_, he, (hend .paths (by decide)).trans hpaths, fun hoff => ?_, fun hon => ?_,
    (hopen.mono (by simp)).trans ((hup.mono (by simp)).trans (hend.mono (by simp)))⟩
  · have hgoes := goUp_offline (honline.trans hoff) hacq' 48
    obtain ⟨hmerges, hmonitors, hsource, hswitched, hlatch, hfaults⟩ :=
      goOnline_eff p x c (setPath p x (upReceiver p x 48 before) before)
    rw [← hgoes] at hmerges hmonitors hsource hswitched hlatch hfaults
    rw [hset .merges (by decide), hopen .merges (by decide)] at hmerges
    rw [hset .clock (by decide), hset .signal (by decide), hclock, hopen .signal (by decide)] at hmonitors
    rw [hset .settings (by decide), hopen .settings (by decide)] at hsource
    rw [hset .clock (by decide), hclock] at hswitched
    rw [hset .latch (by decide), hopen .latch (by decide)] at hlatch
    rw [hset .faults (by decide), hopen .faults (by decide)] at hfaults
    rw [← hend .clock (by decide)] at hmonitors hsource hswitched
    refine ⟨(hend .merges (by decide)).trans hmerges, hmonitors, hsource, ?_, ?_,
      (onlyConditionsReported_settle hfaults).of_same hmark⟩
    · rw [hswitched, show k.source = s.clock.source from clockAtWork_source s]
    · rw [markTaken_latch, hsettled .latch (by decide), hlatch]
  · have hgoes := goUp_online (honline.trans hon) hacq' 48
    have hplaced : SameExcept [.paths, .merges, .faults] before (goUp p x 48 before) := by
      rw [hgoes]
      exact (hset.mono (by simp)).trans ((placeCopy_frame _ _ _).mono (by simp))
    have hmerge : (setPath p x (upReceiver p x 48 before) before).merges = s.merges :=
      (hset .merges (by decide)).trans (hopen .merges (by decide))
    have hfaults : (setPath p x (upReceiver p x 48 before) before).faults = s.faults :=
      (hset .faults (by decide)).trans (hopen .faults (by decide))
    have hsettings : (setPath p x (upReceiver p x 48 before) before).settings = s.settings :=
      (hset .settings (by decide)).trans (hopen .settings (by decide))
    refine ⟨?_, ?_, ?_, fun hquiet => ?_, fun hrun h4 hlt => ?_⟩
    · rw [hend .merges (by decide), hgoes, placeCopy_merges, placeCopy_merges, hmerge]
    · rw [hend .clock (by decide), hplaced .clock (by decide), hclock]
    · rw [Marked, markTaken_latch, hsettled .latch (by decide), hplaced .latch (by decide), hopen .latch (by decide)]
    · have hkept : (goUp p x 48 before).faults = s.faults := by
        rw [hgoes, placeCopy_faults (by rw [hmerge]; exact hquiet), hfaults]
      exact (onlyConditionsReported_settle hkept).of_same hmark
    · rw [← hmerge] at hrun h4 hlt
      have hslip := placeCopy_of_early hrun h4 hlt
      generalize setPath p x (upReceiver p x 48 before) before = u at hgoes hslip hfaults hsettings
      have hreported : EventReported (fun _ => True) .slip s (settle (goUp p x 48 before)) :=
        eventReported_settle (r := setMerge p (slipTo (c.frameNo - (u.merges.get p).playNo).toNat c (u.merges.get p)) u)
          (scope := fun _ => true) (fun _ => by simp) hfaults hsettings (by rw [hgoes, hslip]; rfl)
      exact hreported.of_same hmark

end Sys2Proof.Safety
end

section
/-! PROOFS. A break at the inbound lane, an event raised by itself, and the samples of concealment (R20, R43, R44). -/

namespace Sys2Proof.Safety
open Sys2Proof.Machine
/-! ## An event raised by itself (R180) -/

theorem eventReported_raise {scope : Port → Bool} {P : Port → Prop} {k : FaultKind} {s r : State}
    (hscope : ∀ p, P p ↔ scope p = true) (hr : r.faults = s.faults) (hsettings : r.settings = s.settings) :
    EventReported P k s (raiseFor scope k r) := by
  refine ⟨fun p => ?_, .inl ?_, fun l => ?_, raiseFor_driven _ _ _⟩
  · simp only [hscope, raiseFor_sticky, hr]
    by_cases h : scope p = true
    · rw [if_pos h]
      simp only [and_not_eq_zero, BitVec.getElem_or, Bool.or_eq_true]
      refine ⟨fun i hi ha => .inl ha, fun _ => ?_, fun i hi ha => ?_, fun hout => absurd h hout⟩
      · ext i hi
        rw [BitVec.getElem_and, BitVec.getElem_or]
        cases (faultBit k)[i] <;> simp
      · exact ha.imp_left .inl
    · rw [if_neg h]
      simp only [and_not_eq_zero, BitVec.getElem_or, Bool.or_eq_true]
      exact ⟨fun i hi ha => ha, fun hin => absurd hin h, fun i hi ha => .inl (.inl ha), fun _ i hi ha => .inl ha⟩
  · rw [raiseFor_active, hr]
  · rw [raiseFor_stretch_get, hr, hsettings]

/-- An event's own flag stands after it, and every flag that stood before it. -/
theorem raiseFor_flag {scope : Port → Bool} {p : Port} (h : scope p = true) (k : FaultKind) (s : State) :
    (raiseFor scope k s).faults.sticky.get p &&& faultBit k = faultBit k := by
  rw [raiseFor_sticky, if_pos h]
  ext i hi
  rw [BitVec.getElem_and, BitVec.getElem_or]
  cases (faultBit k)[i] <;> simp

theorem raiseFor_keeps_flag {k : FaultKind} {s : State} {p : Port} (h : s.faults.sticky.get p &&& faultBit k = faultBit k)
    (scope : Port → Bool) (j : FaultKind) : (raiseFor scope j s).faults.sticky.get p &&& faultBit k = faultBit k := by
  rw [raiseFor_sticky]
  split
  · ext i hi
    have hbit := congrArg (fun b : BitVec 12 => b[i]) h
    simp only [BitVec.getElem_and] at hbit
    rw [BitVec.getElem_and, BitVec.getElem_or]
    cases hk : (faultBit k)[i] <;> simp_all
  · exact h

/-! ## A break (R43, R44) -/

theorem PerPort.set_get_self {α : Type} (t : PerPort α) (p : Port) : t.set p (t.get p) = t := by
  cases p <;> rfl

set_option Elab.async false in
/-- The message in progress is for us, or there is none or another's. -/
theorem asmForUs_cases (asm : Option Assembly) :
    (∀ a, asm = some a → a.forUs = false) ∨ ∃ a, asm = some a ∧ a.forUs = true := by
  cases asm with
  | none => exact .inl fun a ha => nomatch ha
  | some a =>
    cases h : a.forUs
    · exact .inl fun b hb => Option.some.inj hb ▸ h
    · exact .inr ⟨a, rfl, h⟩

section
variable {p : Port} {s : State}

theorem dropPartial_silent (h : ∀ a, (s.lanes.get p).asm = some a → a.forUs = false) :
    dropPartial p s = s ∧ (s.lanes.get p).asm = none ∨ dropPartial p s = setAssembly p none s := by
  unfold dropPartial
  cases hasm : (s.lanes.get p).asm with
  | none => exact .inl ⟨rfl, rfl⟩
  | some a =>
    refine .inr ?_
    dsimp only
    rw [h a hasm]
    rfl

theorem dropPartial_forUs {a : Assembly} (ha : (s.lanes.get p).asm = some a) (hus : a.forUs = true) :
    dropPartial p s = raiseAt .controlDrop p (setAssembly p none s) := by
  unfold dropPartial
  simp only [ha, hus, if_true]

/-- A break leaves no message in progress. -/
theorem dropPartial_lanes (p : Port) (s : State) :
    (dropPartial p s).lanes = s.lanes.set p { s.lanes.get p with asm := none } := by
  rcases asmForUs_cases (s.lanes.get p).asm with hsilent | ⟨a, ha, hus⟩
  · rcases dropPartial_silent hsilent with ⟨h, hnone⟩ | h
    · rw [h, ← hnone]
      exact (PerPort.set_get_self _ _).symm
    · rw [h]
      rfl
  · rw [dropPartial_forUs ha hus]
    exact raiseAt_frame _ _ _ .lanes (by decide)

theorem dropPartial_active (p : Port) (s : State) : (dropPartial p s).faults.active = s.faults.active := by
  rcases asmForUs_cases (s.lanes.get p).asm with hsilent | ⟨a, ha, hus⟩
  · rcases dropPartial_silent hsilent with ⟨h, -⟩ | h <;> rw [h]
    rfl
  · rw [dropPartial_forUs ha hus]
    rfl

/-- A break clears no flag. -/
theorem dropPartial_keeps_flag {k : FaultKind} {q : Port} (h : s.faults.sticky.get q &&& faultBit k = faultBit k) :
    (dropPartial p s).faults.sticky.get q &&& faultBit k = faultBit k := by
  rcases asmForUs_cases (s.lanes.get p).asm with hsilent | ⟨a, ha, hus⟩
  · rcases dropPartial_silent hsilent with ⟨hd, -⟩ | hd <;> (rw [hd]; exact h)
  · rw [dropPartial_forUs ha hus]
    exact raiseFor_keeps_flag (s := setAssembly p none s) h _ _

theorem dropPartial_none (h : (s.lanes.get p).asm = none) : dropPartial p s = s := by
  unfold dropPartial
  rw [h]

theorem dropPartial_faults (h : ∀ a, (s.lanes.get p).asm = some a → a.forUs = false) :
    (dropPartial p s).faults = s.faults := by
  rcases dropPartial_silent h with ⟨h, -⟩ | h
  · rw [h]
  · rw [h]
    rfl

end

/-! ## Concealment (R20) -/

theorem roundDiv_eq {d : Nat} (hd : 0 < d) (n : Int) : roundDiv n d = roundHalfAway n d := by
  rw [roundDiv, roundHalfAway]
  rcases lt_trichotomy n 0 with h | rfl | h
  · rw [if_neg (by omega), Int.sign_eq_neg_one_of_neg h, neg_one_mul]
    push_cast
    rw [abs_of_neg h, neg_mul, mul_neg]
  · have hzero : (d : Int) / (2 * d) = 0 := Int.ediv_eq_zero_of_lt (by omega) (by omega)
    simp [hzero]
  · rw [if_pos (by omega), Int.sign_eq_one_of_pos h, one_mul]
    push_cast
    rw [abs_of_pos h]

/-- A rounded quotient stays within whole bounds of the quotient. -/
theorem roundHalfAway_bounds {n d lo hi : Int} (hd : 0 < d) (hlo : lo * d ≤ n) (hhi : n ≤ hi * d) :
    lo ≤ roundHalfAway n d ∧ roundHalfAway n d ≤ hi := by
  rw [roundHalfAway]
  split
  · constructor
    · exact Int.le_ediv_of_mul_le (by omega) (by linarith)
    · exact Int.le_of_lt_add_one (Int.ediv_lt_of_lt_mul (by omega) (by linarith))
  · constructor
    · exact le_neg.mpr (Int.le_of_lt_add_one (Int.ediv_lt_of_lt_mul (by omega) (by linarith)))
    · exact neg_le.mpr (Int.le_ediv_of_mul_le (by omega) (by linarith))

theorem toInt_ofInt_sample {x : Int} (hlo : -8388608 ≤ x) (hhi : x ≤ 8388607) : (BitVec.ofInt 24 x).toInt = x :=
  BitVec.toInt_ofInt_eq_self (by decide) (by simpa using hlo) (by simpa using Int.lt_add_one_of_le hhi)

theorem sample_bounds (h : Sample) : -8388608 ≤ h.toInt ∧ h.toInt ≤ 8388607 := by
  have hlo := BitVec.le_toInt h
  have hhi := BitVec.toInt_lt (x := h)
  norm_num at hlo hhi
  omega

set_option Elab.async false in
theorem concealSample_toInt {k : Nat} (hk : 1 ≤ k) (h : Sample) (j : Fin 8) :
    (concealSample k h (j.val + 1)).toInt = concealedSample k h.toInt (j.val + 1) := by
  obtain ⟨hlo, hhi⟩ := sample_bounds h
  unfold concealSample concealedSample
  by_cases h2 : k ≤ 2
  · exact (congrArg BitVec.toInt (if_pos h2)).trans (if_pos (by omega)).symm
  · refine (congrArg BitVec.toInt (if_neg h2)).trans (Eq.trans ?_ (if_neg (by omega)).symm)
    by_cases h3 : k = 3
    · rw [if_pos h3, if_pos h3, roundDiv_eq (by decide)]
      have hj : 8 - ((j.val + 1 : Nat) : Int) ≤ 7 ∧ 0 ≤ 8 - ((j.val + 1 : Nat) : Int) := by omega
      obtain ⟨hle, hge⟩ := hj
      generalize 8 - ((j.val + 1 : Nat) : Int) = w at hle hge
      obtain ⟨hlow, hhigh⟩ := roundHalfAway_bounds (n := h.toInt * w) (d := (8 : Nat)) (lo := -8388608) (hi := 8388607)
        (by decide) (by push_cast; nlinarith) (by push_cast; nlinarith)
      exact toInt_ofInt_sample hlow hhigh
    · rw [if_neg h3, if_neg h3]
      rfl

/-- What concealment hands on, sample by sample. -/
theorem concealment_samples {k : Nat} (hk : 1 ≤ k) (m : Merge) :
    (∀ (i : Fin 16) (j : Fin 8),
      ((((concealment k m).ret[i]'i.2)[j]'j.2).toInt = concealedSample k (m.heldRet[i]'i.2).toInt (j.val + 1)))
    ∧ ∀ j : Fin 8, ((concealment k m).talk[j]'j.2).toInt =
        if m.talkValid then concealedSample k m.heldTalk.toInt (j.val + 1) else 0 := by
  have hframe (h : Sample) (j : Fin 8) : ((concealFrame k h)[j]'j.2).toInt = concealedSample k h.toInt (j.val + 1) := by
    rw [← concealSample_toInt hk]
    simp [concealFrame]
  refine ⟨fun i j => ?_, fun j => ?_⟩
  · rw [← hframe]
    simp [concealment]
  · rw [concealment]
    dsimp only
    cases m.talkValid
    · simp [deskTalkFrame, zeroFrame]
    · exact hframe _ _

end Sys2Proof.Safety
end

section
/-! PROOFS. Missing playouts and the twelfth in a row (R20, R21). -/

namespace Sys2Proof.Safety
open Sys2Proof.Machine
theorem advance_one (m : Merge) : advance 1 m =
    { m with slots := #v[m.slots[1], m.slots[2], m.slots[3], none], playNo := m.playNo + 1 } := by
  have hslots : (Vector.ofFn fun i : Fin 4 => if h : i.val + 1 < 4 then m.slots[i.val + 1] else none)
      = #v[m.slots[1], m.slots[2], m.slots[3], none] := by
    ext i hi
    rw [Vector.getElem_ofFn]
    interval_cases i <;> rfl
  rw [advance, hslots]
  rfl

section
variable {p : Port} {s : State}

/-! ## The playout of a port (R11, R12, R18) -/

theorem playout_offline (h : online s p = false) : playout p s = setHandoff p .zero s := by
  unfold playout
  rw [h]
  rfl

theorem playout_cameUp (h : online s p = true) (hup : s.latch.cameUp.get p = true) : playout p s = s := by
  unfold playout
  rw [h, hup]
  rfl

theorem playout_plays (h : online s p = true) (hup : s.latch.cameUp.get p = false) : playout p s = playFrame p s := by
  unfold playout
  rw [h, hup]
  rfl

theorem playFrame_missing (h : (s.merges.get p).hunting = true ∨ (s.merges.get p).slots[0] = none) :
    playFrame p s = missFrame p s := by
  unfold playFrame
  dsimp only
  by_cases hh : (s.merges.get p).hunting = true
  · rw [if_pos hh]
  · rw [if_neg hh, h.resolve_left hh]

theorem playFrame_delivers {c : Copy} (hrun : (s.merges.get p).hunting = false) (h : (s.merges.get p).slots[0] = some c) :
    playFrame p s = deliverFrame p c s := by
  unfold playFrame
  dsimp only
  rw [hrun, h]
  rfl

/-! ## A missing playout (R20, R21) -/

/-- The missing run that a missing playout brings about. -/
def missRunOf (m : Merge) : Nat := min 4 (m.missRun + 1)

/-- A missing playout's hand-off and the merge as it leaves it, before a resync and the break. -/
def missed (p : Port) (m' : Merge) (s : State) : State :=
  setMerge p m' (setHandoff p (concealment (missRunOf (s.merges.get p)) (s.merges.get p)) s)

theorem missFrame_hunting (h : (s.merges.get p).hunting = true) : missFrame p s =
    dropPartial p (missed p { s.merges.get p with missRun := missRunOf (s.merges.get p) } s) :=
  congrArg (dropPartial p) (if_pos h)

/-- The merge after a missing playout in RUNNING, below the twelfth in a row. -/
def passedOver (m : Merge) : Merge :=
  { m with
    slots := #v[m.slots[1], m.slots[2], m.slots[3], none], playNo := m.playNo + 1
    missRun := missRunOf m, emptyRun := m.emptyRun + 1 }

theorem missFrame_running (hrun : (s.merges.get p).hunting = false) (h : (s.merges.get p).emptyRun < 11) :
    missFrame p s = dropPartial p (missed p (passedOver (s.merges.get p)) s) := by
  refine congrArg (dropPartial p) ((if_neg (by rw [hrun]; decide)).trans ((if_neg (by omega)).trans ?_))
  rw [advance_one]
  rfl

theorem missFrame_resyncs (hrun : (s.merges.get p).hunting = false) (h : (s.merges.get p).emptyRun = 11) :
    missFrame p s = dropPartial p (resyncWindow p (missed p (passedOver (s.merges.get p)) s)) := by
  refine congrArg (dropPartial p) ((if_neg (by rw [hrun]; decide)).trans ((if_pos (by omega)).trans ?_))
  rw [advance_one]
  rfl

theorem missed_frame (p : Port) (m : Merge) (s : State) : SameExcept [.merges, .latch] s (missed p m s) :=
  ((setHandoff_frame p _ s).mono (by simp)).trans ((setMerge_frame _ _ _).mono (by simp))

set_option Elab.async false in
theorem missed_merges (p : Port) (m : Merge) (s : State) : (missed p m s).merges = s.merges.set p m := rfl

theorem missed_latch (p : Port) (m : Merge) (s : State) : (missed p m s).latch =
    { s.latch with handoff := s.latch.handoff.set p (concealment (missRunOf (s.merges.get p)) (s.merges.get p)) } := rfl

@[simp] theorem setMerge_setMerge (p : Port) (m m' : Merge) (s : State) :
    setMerge p m' (setMerge p m s) = setMerge p m' s :=
  congrArg s.withMerges (PerPort.set_set_self s.merges p m m')

/-- The merge after the twelfth missing playout in a row (R21). -/
def resynced (m : Merge) : Merge :=
  { m with
    slots := #v[none, none, none, none], playNo := m.playNo + 1, hunting := true, missRun := missRunOf m, emptyRun := 0
    resyncs := m.resyncs + 1 }

theorem resyncWindow_missed (p : Port) (s : State) : resyncWindow p (missed p (passedOver (s.merges.get p)) s) =
    raiseAll .resync (missed p (resynced (s.merges.get p)) s) := by
  have hmerge : (missed p (passedOver (s.merges.get p)) s).merges.get p = passedOver (s.merges.get p) :=
    PerPort.get_set_self _ _ _
  rw [resyncWindow, hmerge]
  exact congrArg (raiseAll .resync) (setMerge_setMerge _ _ _ _)

end

set_option Elab.async false in
/-- Settles O13. -/
theorem twelfthMissingPlayoutResyncs : Obligations.TwelfthMissingPlayoutResyncs := by
  intro p s hnot m k honline hup hrun hslot hempty
  have hhappens : resyncsNow p s = true := by
    rw [resyncsNow, honline, hup, show (s.merges.get p).hunting = false from hrun,
      show (s.merges.get p).slots[0] = none from hslot, show (s.merges.get p).emptyRun = 11 from hempty]
    rfl
  have he := exec_unit (c := .resync p) (w := .playout p) (latch := id) (by rfl) hnot hhappens rfl
  obtain ⟨before, hbefore⟩ : ∃ b, s.withClock (clockAtWork s) = b := ⟨_, rfl⟩
  have hopen : SameExcept [.clock] s before := hbefore ▸ withClock_frame _ s
  have hclock : before.clock = clockAtWork s := by rw [← hbefore]; rfl
  have hmerge : before.merges.get p = m := by rw [hopen .merges (by decide)]
  have hconditions : ∀ q, conditionsOf before q = conditionsOf s q := by
    rw [← hbefore]
    exact conditionsOf_same (hsource := clockAtWork_source s)
  have hwork : workEffect (.playout p) before = dropPartial p (raiseAll .resync (missed p (resynced m) before)) := by
    rw [show workEffect (.playout p) before = playout p before from rfl,
      playout_plays ((online_of_paths (hopen .paths (by decide)) p).trans honline)
          (by rw [hopen .latch (by decide)]; exact hup),
      playFrame_missing (.inr (by rw [hmerge]; exact hslot)),
      missFrame_resyncs (by rw [hmerge]; exact hrun) (by rw [hmerge]; exact hempty), resyncWindow_missed, hmerge]
  rw [id, hbefore, hwork] at he
  have hmissed := missed_frame p (resynced m) before
  have hmerges := missed_merges p (resynced m) before
  have hlatch := missed_latch p (resynced m) before
  obtain ⟨hret, htalk⟩ := concealment_samples (k := missRunOf m) (by rw [missRunOf]; omega) m
  rw [hmerge] at hlatch
  rw [hopen .merges (by decide)] at hmerges
  rw [hopen .latch (by decide)] at hlatch
  generalize concealment (missRunOf m) m = handed at hlatch hret htalk
  generalize missed p (resynced m) before = u at he hmissed hmerges hlatch
  have hfaults : u.faults = s.faults := (hmissed .faults (by decide)).trans (hopen .faults (by decide))
  have hsettings : u.settings = s.settings := (hmissed .settings (by decide)).trans (hopen .settings (by decide))
  have hraised : SameExcept [.faults] u (raiseAll .resync u) := raiseAll_frame _ _
  have hlanes : (raiseAll .resync u).lanes = s.lanes :=
    (hraised .lanes (by decide)).trans ((hmissed .lanes (by decide)).trans (hopen .lanes (by decide)))
  have hevent : EventReported (fun _ => True) .resync s (raiseAll .resync u) :=
    eventReported_raise (scope := fun _ => true) (fun _ => by simp) hfaults hsettings
  have hflag (q : Port) : (raiseAll .resync u).faults.sticky.get q &&& faultBit .resync = faultBit .resync :=
    raiseFor_flag (scope := fun _ => true) rfl _ _
  have hactive : (raiseAll .resync u).faults.active = s.faults.active :=
      (raiseFor_active _ _ _).trans (congrArg Faults.active hfaults)
  generalize raiseAll .resync u = r at he hraised hlanes hevent hflag hactive
  have hdropped := dropPartial_frame p r
  have hmark := markTaken_frame (.playout p) (dropPartial p r)
  have hend : SameExcept [.lanes, .faults, .latch] u (markTaken (.playout p) (dropPartial p r)) :=
    (hraised.mono (by simp)).trans ((hdropped.mono (by simp)).trans (hmark.mono (by simp)))
  have hleft : (markTaken (.playout p) (dropPartial p r)).latch = { s.latch with
      taken := .playout p :: s.latch.taken, handoff := s.latch.handoff.set p handed } := by
    rw [markTaken_latch, hdropped .latch (by decide), hraised .latch (by decide), hlatch]
  have hhanded : (markTaken (.playout p) (dropPartial p r)).latch.handoff.get p = handed := by
    rw [hleft]
    exact PerPort.get_set_self _ _ _
  refine ⟨_, he, (hend .merges (by decide)).trans hmerges, ?_, ?_, ?_, ?_, ?_, ?_, fun q => ?_, fun hasm => ?_,
    fun a ha hus => ?_, ?_⟩
  · rw [hhanded]
    exact hret
  · rw [hhanded]
    exact htalk
  · rw [hhanded]
    exact hleft
  · rw [hend .clock (by decide), hmissed .clock (by decide), hclock]
  · rw [hmark .lanes (by decide), dropPartial_lanes, hlanes]
  · rw [hmark .faults (by decide), dropPartial_active, hactive]
  · rw [hmark .faults (by decide)]
    exact dropPartial_keeps_flag (hflag q)
  · rw [← hlanes] at hasm
    rw [dropPartial_none hasm]
    exact hevent.of_same (markTaken_frame _ _)
  · rw [← hlanes] at ha
    rw [hmark .faults (by decide), dropPartial_forUs ha hus]
    exact raiseFor_flag (by simp) _ _
  · exact (hopen.mono (by simp)).trans ((hmissed.mono (by simp)).trans (hend.mono (by simp)))

end Sys2Proof.Safety
end

section
/-! PROOFS. What a playout delivers, conceals or hands on (R11, R12, R18 to R21, R39). -/

namespace Sys2Proof.Safety
open Sys2Proof.Machine
/-! ## A delivered frame (R18, R19) -/

/-- A merge after it has delivered a copy (R18, R19). -/
def deliveredForm (c : Copy) (m : Merge) : Merge :=
  { m with
    slots := #v[m.slots[1], m.slots[2], m.slots[3], none], playNo := m.playNo + 1
    mask := c.mask, talkValid := c.talkValid, missRun := 0, emptyRun := 0, lastPath := some c.path
    heldRet := Vector.ofFn fun i : Fin 16 => (c.ret[i]'i.2)[7], heldTalk := c.talk[7] }

theorem delivered_eq (c : Copy) (m : Merge) : delivered c m = deliveredForm c m := by
  rw [delivered, advance_one]
  rfl

/-- What a delivered copy hands on (R19, R176). -/
def handedOver (c : Copy) : Handoff := { ret := c.ret, talk := if c.talkValid then c.talk else Vector.replicate 8 0 }

theorem deliveredAudio_eq (c : Copy) : deliveredAudio c = handedOver c := rfl

/-- A delivered frame handed on and the outputs re-evaluated, before its control words. -/
def playedOn (p : Port) (c : Copy) (s : State) : State :=
  settle (followOutputs s (setHandoff p (deliveredAudio c) (setMerge p (delivered c (s.merges.get p)) s)))

theorem deliverFrame_eq (p : Port) (c : Copy) (s : State) : deliverFrame p c s =
    if c.good then takeWords p c.control.toList (playedOn p c s) else dropPartial p (playedOn p c s) := rfl

/-- All that a delivered frame does before its control words. -/
theorem playedOn_eff (p : Port) (c : Copy) (s : State) :
    let t := playedOn p c s
    t.merges = s.merges.set p (deliveredForm c (s.merges.get p))
    ∧ t.latch = { s.latch with handoff := s.latch.handoff.set p (handedOver c) }
    ∧ (∀ i : OutId, (t.outputs[i]'i.2) = followOutput s t (s.outputs[i]'i.2))
    ∧ SameExcept [.merges, .latch, .outputs, .faults] s t
    ∧ ∃ u, t = settle u ∧ u.faults = s.faults ∧ u.settings = s.settings := by
  rw [playedOn, delivered_eq, deliveredAudio_eq]
  have hset : SameExcept [.merges] s (setMerge p (deliveredForm c (s.merges.get p)) s) := setMerge_frame _ _ _
  have hmerges : (setMerge p (deliveredForm c (s.merges.get p)) s).merges = s.merges.set p _ := rfl
  generalize setMerge p (deliveredForm c (s.merges.get p)) s = a at hset hmerges ⊢
  have hhanded : SameExcept [.latch] a (setHandoff p (handedOver c) a) := setHandoff_frame _ _ _
  have hlatch : (setHandoff p (handedOver c) a).latch
      = { a.latch with handoff := a.latch.handoff.set p (handedOver c) } := rfl
  generalize setHandoff p (handedOver c) a = b at hhanded hlatch ⊢
  have hfollowed : SameExcept [.outputs] b (followOutputs s b) := followOutputs_frame s b
  have houtputs (i : OutId) := followOutputs_get s b i
  generalize followOutputs s b = u at hfollowed houtputs ⊢
  have hsettled := settle_frame u
  have hbefore : SameExcept [.merges, .latch, .outputs] s u :=
    (hset.mono (by simp)).trans ((hhanded.mono (by simp)).trans (hfollowed.mono (by simp)))
  have hafter : SameExcept [.outputs, .faults] b (settle u) := hfollowed.seq hsettled
  refine ⟨?_, ?_, fun i => ?_, hbefore.seq hsettled, u, rfl, hbefore .faults (by decide), hbefore .settings (by decide)⟩
  · rw [hafter .merges (by decide), hhanded .merges (by decide), hmerges]
  · rw [hafter .latch (by decide), hlatch, hset .latch (by decide)]
  · rw [hsettled .outputs (by decide), houtputs, hhanded .outputs (by decide), hset .outputs (by decide)]
    exact (followOutput_congr (fun _ => rfl)
      (available_of_same (hafter .paths (by decide)) (hafter .merges (by decide))) _).symm

/-! ## The control words of a delivered frame (R39) -/

theorem takeWord_idle {p : Port} {w : Word} (h : w.toNat < 2 ^ 30) (s : State) : takeWord p w s = s := by
  have htype : wordType w = 0 := by
    rw [wordType, bitsAt]
    omega
  unfold takeWord
  rw [htype]
  rfl

theorem takeWords_idle {p : Port} {ws : List Word} (h : ∀ w ∈ ws, w.toNat < 2 ^ 30) (s : State) : takeWords p ws s = s := by
  induction ws with
  | nil => rfl
  | cons w ws ih =>
    have hhead : (if online s p then takeWord p w s else s) = s := by
      rw [takeWord_idle (h w (.head _)), ite_self]
    rw [takeWords, List.foldl_cons, hhead]
    exact ih fun v hv => h v (.tail _ hv)

theorem raiseAt_setAssembly (k : FaultKind) (p q : Port) (a : Option Assembly) (s : State) :
    raiseAt k p (setAssembly q a s) = setAssembly q a (raiseAt k p s) := rfl

/-! ## The playouts of a port -/

section
variable {p : Port} {c : Copy} {s : State}

set_option Elab.async false in
/-- A frame handed on and a break after it: what the break leaves and what it reports (R43, R44). -/
theorem dropPartial_playedOn (p : Port) (c : Copy) (s : State) :
    (dropPartial p (playedOn p c s)).lanes = s.lanes.set p { s.lanes.get p with asm := none }
    ∧ ((∀ a, (s.lanes.get p).asm = some a → a.forUs = false) → OnlyConditionsReported s (dropPartial p (playedOn p c s)))
    ∧ ∀ a, (s.lanes.get p).asm = some a → a.forUs = true →
        EventReported (· = p) .controlDrop s (dropPartial p (playedOn p c s))
        ∧ ∀ q, (dropPartial p (playedOn p c s)).faults.active.get q = conditionsOf (dropPartial p (playedOn p c s)) q := by
  obtain ⟨-, -, -, hframe, u, hu, hfaults, hsettings⟩ := playedOn_eff p c s
  have hlanes : (playedOn p c s).lanes = s.lanes := hframe .lanes (by decide)
  have hreported : OnlyConditionsReported s (playedOn p c s) := hu ▸ onlyConditionsReported_settle hfaults
  rw [← hlanes]
  refine ⟨dropPartial_lanes _ _, fun hsilent => ?_, fun a ha hus => ?_⟩
  · rcases dropPartial_silent hsilent with ⟨h, -⟩ | h
    · rw [h]
      exact hreported
    · rw [h]
      exact hreported.of_same (setAssembly_frame _ _ _)
  · have hsame := setAssembly_frame p none (raiseAt .controlDrop p (playedOn p c s))
    rw [dropPartial_forUs ha hus, raiseAt_setAssembly]
    rw [hu] at hsame ⊢
    refine ⟨(eventReported_raise_settle (by simp) hfaults hsettings).of_same hsame, fun q => ?_⟩
    rw [hsame .faults (by decide), conditionsOf_frame hsame, conditionsOf_frame (raiseAt_frame _ _ _), conditionsOf_settle]
    exact settle_active u q

/-- What a delivered frame leaves once its control words have had no effect but a break. -/
theorem playedOn_then {t : State} (h : SameExcept [.lanes, .faults] (playedOn p c s) t) :
    t.merges = s.merges.set p (deliveredForm c (s.merges.get p))
    ∧ t.latch = { s.latch with handoff := s.latch.handoff.set p (handedOver c) }
    ∧ (∀ i : OutId, (t.outputs[i]'i.2) = followOutput s t (s.outputs[i]'i.2))
    ∧ SameExcept [.merges, .latch, .outputs, .lanes, .faults] s t := by
  obtain ⟨hmerges, hlatch, houtputs, hframe, -⟩ := playedOn_eff p c s
  refine ⟨(h .merges (by decide)).trans hmerges, (h .latch (by decide)).trans hlatch, fun i => ?_,
    (hframe.mono (by simp)).trans (h.mono (by simp))⟩
  rw [h .outputs (by decide), houtputs]
  exact (followOutput_congr (fun _ => rfl) (available_of_same (h .paths (by decide)) (h .merges (by decide))) _).symm

/-- A copy with other control words is delivered alike, and leaves the window alike. -/
theorem deliveredForm_control (c : Copy) (ws : Vector Word 4) (m : Merge) :
    deliveredForm { c with control := ws } { m with slots := vset m.slots 0 (some { c with control := ws }) }
      = deliveredForm c m := by
  simp [deliveredForm, vset]

theorem followOutputs_congr {old old' : State} (h : ∀ src, available old' src = available old src) (s : State) :
    followOutputs old' s = followOutputs old s :=
  congrArg s.withOutputs (congrArg Vector.ofFn (funext fun _ => followOutput_congr h (fun _ => rfl) _))

/-- A mask that stays leaves the sources available as they were. -/
theorem available_setMerge {m : Merge} (h : m.mask = (s.merges.get p).mask) (src : Option Source) :
    available (setMerge p m s) src = available s src := by
  cases src with
  | none => rfl
  | some src =>
    have hmask : ((setMerge p m s).merges.get src.port).mask = (s.merges.get src.port).mask := by
      by_cases hp : src.port = p
      · rw [hp, ← h]
        exact congrArg Merge.mask (PerPort.get_set_self _ _ _)
      · exact congrArg Merge.mask (PerPort.get_set_ne _ _ hp)
    rw [available, available, hmask, online_of_paths (setMerge_frame p m s .paths (by decide))]

/-- A frame is handed on alike whatever its control words are. -/
theorem playedOn_control (p : Port) (c : Copy) (ws : Vector Word 4) (s : State) :
    playedOn p { c with control := ws }
        (setMerge p { s.merges.get p with slots := vset (s.merges.get p).slots 0 (some { c with control := ws }) } s)
      = playedOn p c s := by
  rw [playedOn, playedOn, setMerge_setMerge, followOutputs_congr (available_setMerge (by rfl)),
    show (setMerge p _ s).merges.get p = _ from PerPort.get_set_self _ _ _, delivered_eq, delivered_eq,
        deliveredForm_control]
  rfl

end

/-- The playout that delivers. -/
theorem playout_delivers {p : Port} {c : Copy} {s : State} (honline : online s p = true)
    (hup : s.latch.cameUp.get p = false) (hrun : (s.merges.get p).hunting = false)
        (hslot : (s.merges.get p).slots[0] = some c) :
    playout p s = deliverFrame p c s :=
  (playout_plays honline hup).trans (playFrame_delivers hrun hslot)

/-- Settles O14. -/
theorem playoutDeliversTheFrameNumberedP : Obligations.PlayoutDeliversTheFrameNumberedP := by
  refine ⟨?_, ?_, ?_, fun p s => ⟨playout_offline, playout_cameUp⟩⟩
  · intro p c s m t honline hup hrun hslot hidle
    have ht : t = deliverFrame p c s := playout_delivers honline hup hrun hslot
    clear_value t
    subst ht
    rw [deliverFrame_eq]
    obtain ⟨-, -, -, hframe, u, hu, hfaults, -⟩ := playedOn_eff p c s
    cases hgood : c.good
    · obtain ⟨hlanes, hsilent, hforUs⟩ := dropPartial_playedOn p c s
      obtain ⟨hmerges, hlatch, houtputs, hsame⟩ := playedOn_then (dropPartial_frame p (playedOn p c s))
      exact ⟨hmerges, hlatch, houtputs, fun h => absurd h Bool.false_ne_true, fun _ => ⟨hlanes, hsilent, hforUs⟩, hsame⟩
    · obtain ⟨hmerges, hlatch, houtputs, hsame⟩ := playedOn_then (.refl [.lanes, .faults] (playedOn p c s))
      have hwords : takeWords p c.control.toList (playedOn p c s) = playedOn p c s :=
        takeWords_idle (fun w hw => by
          obtain ⟨i, hi, rfl⟩ := List.mem_iff_getElem.mp hw
          exact hidle hgood ⟨i, by simpa using hi⟩) _
      rw [if_pos rfl, hwords]
      exact ⟨hmerges, hlatch, houtputs, fun _ => ⟨hframe .lanes (by decide), hu ▸ onlyConditionsReported_settle hfaults⟩,
        fun h => absurd h.symm Bool.false_ne_true, hsame⟩
  · intro p c s m t idle afterIdle honline hup hrun hslot hgood
    have hafter : afterIdle = playedOn p c s := by
      have hslots : (vset m.slots 0 (some idle))[0] = some idle := vset_get_self _ _ _
      have hget : (setMerge p { m with slots := vset m.slots 0 (some idle) } s).merges.get p
          = { m with slots := vset m.slots 0 (some idle) } := PerPort.get_set_self _ _ _
      refine (playout_delivers (p := p) (c := idle) (s := setMerge p { m with slots := vset m.slots 0 (some idle) } s)
        ((online_of_paths rfl p).trans honline) hup (by rw [hget]; exact hrun) (by rw [hget]; exact hslots)).trans ?_
      rw [deliverFrame_eq, if_pos hgood, playedOn_control, takeWords_idle]
      intro w hw
      obtain rfl := List.eq_of_mem_replicate hw
      decide
    have ht : t = takeWords p c.control.toList (playedOn p c s) :=
      (playout_delivers honline hup hrun hslot).trans ((deliverFrame_eq p c s).trans (if_pos hgood))
    obtain ⟨-, hlatch, -⟩ := playedOn_eff p c s
    exact ⟨by rw [ht, hafter]; rfl, by rw [ht, takeWords_frame p _ _ .latch (by decide), hlatch]; rfl⟩
  · intro p s m t k honline hup hcase
    obtain ⟨m', hmerge, hmiss⟩ : ∃ m', m' = (if m.hunting then { m with missRun := k } else passedOver m)
        ∧ playout p s = dropPartial p (missed p m' s) := by
      refine ⟨_, rfl, (playout_plays honline hup).trans ?_⟩
      by_cases hrun : m.hunting = true
      · rw [if_pos hrun]
        exact (playFrame_missing (.inl hrun)).trans (missFrame_hunting hrun)
      · rw [if_neg hrun]
        obtain ⟨hslot, hempty⟩ := hcase.resolve_left hrun
        exact (playFrame_missing (.inr hslot)).trans (missFrame_running (Bool.eq_false_iff.mpr hrun) hempty)
    have ht : t = dropPartial p (missed p m' s) := hmiss
    clear_value t
    subst ht
    obtain ⟨hret, htalk⟩ := concealment_samples (k := missRunOf m) (by rw [missRunOf]; omega) m
    have hmissed := missed_frame p m' s
    have hmerges := missed_merges p m' s
    have hlatch := missed_latch p m' s
    change _ = { s.latch with handoff := s.latch.handoff.set p (concealment (missRunOf m) m) } at hlatch
    generalize concealment (missRunOf m) m = handed at hlatch hret htalk
    generalize missed p m' s = u at hmissed hmerges hlatch ⊢
    have hlanes : u.lanes = s.lanes := hmissed .lanes (by decide)
    have hdropped := dropPartial_frame p u
    have hleft : (dropPartial p u).latch = { s.latch with handoff := s.latch.handoff.set p handed } :=
      (hdropped .latch (by decide)).trans hlatch
    have hhanded : (dropPartial p u).latch.handoff.get p = handed := by
      rw [hleft]
      exact PerPort.get_set_self _ _ _
    rw [hhanded, ← hlanes]
    refine ⟨?_, hret, htalk, hleft, dropPartial_lanes p u, fun hsilent => ?_, fun a ha hus => ?_,
      (hmissed.mono (by simp)).trans (hdropped.mono (by simp))⟩
    · rw [hdropped .merges (by decide), hmerges, hmerge]
      rfl
    · rw [dropPartial_faults hsilent, hmissed .faults (by decide)]
    · rw [dropPartial_forUs ha hus, raiseAt_setAssembly]
      exact (eventReported_raise (by simp) (hmissed .faults (by decide)) (hmissed .settings (by decide))).of_same
        (setAssembly_frame p none (raiseAt .controlDrop p u))

end Sys2Proof.Safety
end

section
/-! PROOFS. Reply words (R48, R51); the gain function and the samples of an output (R104, R105, R155 to R158). -/

namespace Sys2Proof.Safety
open Sys2Proof.Machine
/-! ## The words of a reply (R48) -/

/-- The words of a reply, by their fields. -/
def replyBits (address : BitVec 2) (r : Reply) : List Word :=
  (0b010#3 ++ address ++ r.kind ++ BitVec.ofNat 4 r.body.length ++ r.tag ++ BitVec.ofNat 4 (codeNo r.code) ++ 0#5)
    :: r.body.map fun b => 0b10#2 ++ b

/-- A word whose fields are listed from the top is summed from the bottom as well. -/
theorem wordOf_reverse (fields : List Nat) : wordOf fields = BitVec.ofNat 32 fields.reverse.sum := by
  rw [List.sum_reverse, wordOf]

theorem replyWords_eq (address : BitVec 2) (r : Reply) : replyWords address r = replyBits address r := by
  have haddress : fieldAt 29 27 address.toNat = address.toNat * 2 ^ 27 :=
    congrArg (· * 2 ^ 27) (Nat.mod_eq_of_lt (address.isLt.trans (by decide)))
  have hmark : fieldAt 31 30 1 = (0b010#3).toNat * 2 ^ 29 := rfl
  refine congrArg₂ List.cons ?_ (List.map_congr_left fun b _ => ?_)
  all_goals
    rw [wordOf_reverse]
    refine ofNat_eq_of_placed ?_
  · simp only [List.reverse_cons, List.reverse_nil, List.nil_append, List.cons_append, placed_append, placed_zero, haddress,
      hmark, fieldAt_eq, sum_field_cons, sum_field_nil, BitVec.ofNat_toNat, BitVec.setWidth_eq, Nat.add_zero, Nat.zero_add,
      -Nat.reduceAdd]
  · refine (placed_append (0b10#2) b 0).trans ?_
    simp only [List.reverse_cons, List.reverse_nil, List.nil_append, List.cons_append, fieldAt_eq,
      sum_field_cons, sum_field_nil, BitVec.ofNat_toNat, BitVec.setWidth_eq, Nat.add_zero, -Nat.reduceAdd]

/-! ## The words a lane has left to send (R51) -/

/-- The words of a lane's replies that have not been sent. -/
def unsentWords (address : BitVec 2) (l : Lane) : List Word := (l.queue.flatMap (replyBits address)).drop l.sent

/-- The head reply has a word left to send, and none is sent of an empty queue. -/
def HeadWaits (l : Lane) : Prop :=
  match l.queue with
  | [] => l.sent = 0
  | r :: _ => l.sent ≤ r.body.length

theorem length_replyBits (address : BitVec 2) (r : Reply) : (replyBits address r).length = r.body.length + 1 := by
  simp [replyBits]

/-- The next word is the first unsent one, and it alone is taken. -/
theorem nextReplyWord_takes {address : BitVec 2} {l : Lane} (h : HeadWaits l) :
    (nextReplyWord address l).1 = (unsentWords address l)[0]?.getD 0
    ∧ unsentWords address (nextReplyWord address l).2 = (unsentWords address l).drop 1
    ∧ HeadWaits (nextReplyWord address l).2 ∧ (nextReplyWord address l).2.asm = l.asm := by
  obtain ⟨asm, queue, sent⟩ := l
  cases queue with
  | nil => exact ⟨by simp [nextReplyWord, unsentWords], by simp [nextReplyWord, unsentWords], h, rfl⟩
  | cons r rest =>
    have hlength := length_replyBits address r
    have hsent : sent < (replyBits address r).length := by rw [hlength]; exact Nat.lt_succ_of_le h
    have hunsent : unsentWords address ⟨asm, r :: rest, sent⟩
        = (replyBits address r).drop sent ++ rest.flatMap (replyBits address) := by
      rw [unsentWords, List.flatMap_cons, List.drop_append_of_le_length (Nat.le_of_lt hsent)]
    have hhead : (unsentWords address ⟨asm, r :: rest, sent⟩)[0]?.getD 0 = (replyBits address r).getD sent 0 := by
      rw [hunsent, List.getElem?_append_left (by rw [List.length_drop]; omega), List.getElem?_drop, Nat.add_zero,
        List.getD_eq_getElem?_getD]
    have hdrop : (unsentWords address ⟨asm, r :: rest, sent⟩).drop 1
        = (replyBits address r).drop (sent + 1) ++ rest.flatMap (replyBits address) := by
      rw [hunsent, List.drop_append_of_le_length (by rw [List.length_drop]; omega), List.drop_drop]
    rw [hhead, hdrop, nextReplyWord]
    dsimp only
    rw [replyWords_eq]
    split
    · next hlast =>
      refine ⟨rfl, ?_, ?_, rfl⟩
      · rw [List.drop_eq_nil_of_le hlast]
        rfl
      · cases rest with
        | nil => rfl
        | cons r' rest => exact Nat.zero_le _
    · next hmore =>
      refine ⟨rfl, ?_, ?_, rfl⟩
      · rw [unsentWords, List.flatMap_cons, List.drop_append_of_le_length (by rw [hlength]; exact Nat.succ_le_succ h)]
      · have : sent + 1 ≤ r.body.length := by omega
        exact this

set_option Elab.async false in
theorem laneAfter_unsent {address : BitVec 2} {l : Lane} (h : HeadWaits l) (n : Nat) :
    unsentWords address (laneAfter address l n) = (unsentWords address l).drop n ∧ HeadWaits (laneAfter address l n)
      ∧ (laneAfter address l n).asm = l.asm := by
  induction n with
  | zero => exact ⟨rfl, h, rfl⟩
  | succ n ih =>
    obtain ⟨hunsent, hwaits, hasm⟩ := ih
    obtain ⟨-, hnext, hkept, hnextAsm⟩ := nextReplyWord_takes (address := address) hwaits
    exact ⟨by rw [laneAfter, hnext, hunsent, List.drop_drop], hkept, hnextAsm.trans hasm⟩

/-- Settles O20. -/
theorem frameTakesTheNextFourReplyWords : Obligations.FrameTakesTheNextFourReplyWords := by
  intro address l words unsent hwaits
  refine ⟨fun i => ?_, (laneAfter_unsent hwaits 4).1, (laneAfter_unsent hwaits 4).2.2⟩
  obtain ⟨hunsent, hleft, -⟩ := laneAfter_unsent (address := address) hwaits i.val
  obtain ⟨hword, -⟩ := nextReplyWord_takes (address := address) hleft
  rw [hunsent, List.getElem?_drop, Nat.add_zero] at hword
  rw [replyLanes, Fin.getElem_fin, Vector.getElem_ofFn]
  exact hword

/-! ## The gain function (R104, R105) -/

theorem saturate_toInt (n : Int) : (saturate n).1.toInt = saturated n := by
  have hclamp : clampTo (-8388608) 8388607 n = saturated n := by
    rw [clampTo, saturated]
    omega
  rw [saturate, hclamp]
  exact toInt_ofInt_sample (by rw [saturated]; omega) (by rw [saturated]; omega)

theorem saturate_flag (n : Int) : (saturate n).2 = true ↔ saturated n ≠ n := by
  rw [saturate, decide_eq_true_iff, saturated]
  omega

/-- The mantissa of a step. -/
def mantissaOf (n : Nat) : Int :=
  ([32768, 34710, 36766, 38945, 41252, 43697, 46286, 49029, 51934, 55011, 58271, 61723] : List Int).getD n 0

theorem mantissaOf_eq (n : Nat) : ((mantissas.getD n 0 : Nat) : Int) = mantissaOf n :=
  (List.getD_map (f := fun k : Nat => (k : Int)) (l := mantissas) (d := 0) (n := n)).symm

theorem mantissaOf_bounds (n : Nat) : 0 ≤ mantissaOf n ∧ mantissaOf n ≤ 65536 := by
  by_cases h : n < 12
  · exact (by decide : ∀ i : Fin 12, 0 ≤ mantissaOf i.val ∧ mantissaOf i.val ≤ 65536) ⟨n, h⟩
  · have hnone : mantissaOf n = 0 := List.getD_eq_default _ _ (by simpa using h)
    rw [hnone]
    decide

theorem gainExact_eq (x D : Int) : gainExact x D =
    roundHalfAway (x * mantissaOf (D - 12 * (D / 12)).toNat) (2 ^ (15 - D / 12).toNat) := by
  rw [gainExact, roundDiv_eq (Nat.two_pow_pos _), mantissaOf_eq, Int.emod_def]
  push_cast
  rfl

theorem gainExact_zero (x : Int) : gainExact x 0 = x := by
  have hm : mantissaOf ((0 : Int) - 12 * (0 / 12)).toNat = 32768 := rfl
  have hd : (2 : Int) ^ ((15 : Int) - 0 / 12).toNat = 32768 := rfl
  rw [gainExact_eq, hm, hd, roundHalfAway]
  split <;> omega

/-- A gain of 0 or less never saturates. -/
theorem gainExact_bounds (x : Sample) {D : Int} (h : D ≤ 0) :
    -8388608 ≤ gainExact x.toInt D ∧ gainExact x.toInt D ≤ 8388607 := by
  obtain ⟨hlo, hhi⟩ := sample_bounds x
  obtain hzero | hneg := h.eq_or_lt
  · rw [hzero, gainExact_zero]
    exact ⟨hlo, hhi⟩
  · obtain ⟨hm0, hm⟩ := mantissaOf_bounds (D - 12 * (D / 12)).toNat
    have hd : (65536 : Int) ≤ 2 ^ (15 - D / 12).toNat :=
      (by norm_num : (65536 : Int) = 2 ^ 16) ▸ pow_le_pow_right₀ (by norm_num) (by omega)
    rw [gainExact_eq]
    generalize mantissaOf (D - 12 * (D / 12)).toNat = m at hm0 hm
    generalize (2 : Int) ^ (15 - D / 12).toNat = d at hd
    exact roundHalfAway_bounds (by omega) (by nlinarith) (by nlinarith)

/-- Settles O31. -/
theorem gainFunctionScalesRoundsAndSaturates : Obligations.GainFunctionScalesRoundsAndSaturates := by
  intro x D _ _ octave step mantissa exact_
  have hexact : exact_ = gainExact x.toInt D := (gainExact_eq _ _).symm
  rw [hexact]
  refine ⟨saturate_toInt _, saturate_flag _, fun hzero => ?_, fun hle => ?_⟩
  · obtain ⟨hlo, hhi⟩ := sample_bounds x
    refine BitVec.eq_of_toInt_eq ((saturate_toInt _).trans ?_)
    rw [hzero, gainExact_zero, saturated]
    omega
  · obtain ⟨hlo, hhi⟩ := gainExact_bounds x hle
    refine Bool.eq_false_iff.mpr fun h => (saturate_flag _).mp h ?_
    rw [saturated]
    omega

/-! ## The samples of an output (R155 to R158) -/

/-- The duck gain of each depth. -/
theorem duckGain_eq {depth : Int} (hlo : 0 ≤ depth) (hhi : depth ≤ 60) : duckGain depth =
    roundHalfAway (([32768, 61723, 58271, 55011, 51934, 49029, 46286, 43697, 41252, 38945, 36766, 34710] : List Int).getD
      (depth % 12).toNat 0) (2 ^ ((depth + 11) / 12).toNat) := by
  obtain ⟨n, rfl⟩ := Int.eq_ofNat_of_zero_le hlo
  exact (by decide : ∀ n : Fin 61, duckGain (n.val : Int) =
    roundHalfAway (([32768, 61723, 58271, 55011, 51934, 49029, 46286, 43697, 41252, 38945, 36766, 34710] : List Int).getD
      ((n.val : Int) % 12).toNat 0) (2 ^ (((n.val : Int) + 11) / 12).toNat)) ⟨n, by omega⟩

/-- Settles O43. -/
theorem outputSampleMixesProgrammeAndTalk : Obligations.OutputSampleMixesProgrammeAndTalk := by
  intro s i o j _ _ hlo hhi heardAt depth g factor programme talk
  have hheard (src : Option Source) : sourceSample s src j = heardAt src := by cases src <;> rfl
  have hprogramme : programmeSample s o j = programme := by
    rw [programmeSample, roundDiv_eq (by decide), duckGain_eq hlo hhi, hheard, hheard]
    rfl
  have htalk : talkSum s i j = talk .p0 + talk .p1 + talk .p2 := by
    simp only [talkSum, ports, List.map_cons, List.map_nil, List.sum_cons, List.sum_nil, Bool.and_eq_true, talk, add_zero,
      add_assoc]
  rw [outputSample, saturate_toInt, hprogramme, htalk]

end Sys2Proof.Safety
end

section
/-! PROOFS. What a receiver takes from a frame, and an arrival at a path that does not carry yet (R2, R3). -/

namespace Sys2Proof.Safety
open Sys2Proof.Machine
/-! ## The check (R2) -/

set_option Elab.async false in
theorem crcBit_eq (r : BitVec 16) (b : Bool) : crcBit r b = checkStep r b := by
  rw [crcBit, checkStep]
  cases r.msb <;> cases b <;> rfl

theorem crcWord_eq (r : BitVec 16) (w : Word) :
    crcWord r w = ((List.finRange 32).map fun i => w.getLsbD (31 - i.val)).foldl checkStep r := by
  rw [crcWord, List.foldl_map, ← List.map_coe_finRange_eq_range, List.foldl_map]
  refine congrArg (fun g => List.foldl g r (List.finRange 32)) (funext fun r => funext fun i => ?_)
  rw [crcBit_eq, BitVec.getMsbD, decide_eq_true i.isLt, Bool.true_and]

/-- The check over words is the check over their bits, one after another. -/
theorem frameCheck_eq (ws : List Word) : frameCheck ws = checkOver ws := by
  rw [frameCheck, checkOver, List.foldl_flatMap]
  exact congrArg (fun g => List.foldl g _ ws) (funext fun r => funext fun w => crcWord_eq r w)

/-! ## A copy (chapter 12) -/

/-- A field of a word, taken as a vector of the field's width. -/
theorem ofNat_bitsAt {w : Nat} (v : BitVec w) (hi lo : Nat) :
    BitVec.ofNat (hi + 1 - lo) (bitsAt hi lo v.toNat) = v.extractLsb' lo (hi + 1 - lo) := by
  rw [bitsAt, ← extract_toNat, BitVec.ofNat_toNat, BitVec.setWidth_eq]

theorem frame_word (f : Frame) {i : Nat} (h : i < 143) : f.toList[i]?.getD 0 = f[i] := by
  rw [List.getElem?_eq_getElem (by simpa using h), Option.getD_some, Vector.getElem_toList]

theorem checked_words (f : Frame) :
    (f.toList.drop 1).take 141 = (List.range 141).map fun n => f.toList[n + 2 - 1]?.getD 0 := by
  refine List.ext_getElem (by simp) fun i hi _ => ?_
  have hlt : i < 141 := by simp at hi; omega
  rw [List.getElem_map, List.getElem_range, frame_word f (by omega), List.getElem_take, List.getElem_drop,
    Vector.getElem_toList]
  exact getElem_congr_idx (by omega)

/-! ## An arrival at a path that does not carry (R3) -/

/-- The record that an arrival leaves of a DARK path. -/
def beganAcquiring (c : Copy) : PathRec :=
  { bareReceiver .acquire .nextWord with
    arrived := true, good := c.good, suspect := !c.good, acq := if c.good then some c else none }

/-- The record that an arrival leaves of a path in ACQUIRE. -/
def acquired (c : Copy) (r : PathRec) : PathRec :=
  { r with
    rx := .nextWord, arrived := true, good := r.good || c.good, suspect := r.suspect || !c.good
    acq := if c.good then some c else r.acq }

section
variable {p : Port} {x : PathName} {s : State}

theorem takeArrival_dark (c : Copy) (h : (pathRec s p x).state = .dark) (hrx : (pathRec s p x).rx = .nextWord) :
    takeArrival p x c s = setPath p x (beganAcquiring c) s := by
  unfold takeArrival
  dsimp only
  rw [h, hrx]
  refine congrArg (fun r => setPath p x r s) ?_
  rw [acquireArrival, recordArrival, beganAcquiring]
  cases c.good <;> rfl

theorem takeArrival_acquire (c : Copy) (h : (pathRec s p x).state = .acquire) (hrx : (pathRec s p x).rx = .nextWord) :
    takeArrival p x c s = setPath p x (acquired c (pathRec s p x)) s := by
  unfold takeArrival
  dsimp only
  rw [h]
  refine congrArg (fun r => setPath p x r s) ?_
  rw [acquireArrival, recordArrival, acquired, ← hrx]
  cases c.good <;> rfl

/-- FRAME_ARRIVAL: the receiver examines the next word, an interval that waited has begun, and the path takes the copy. -/
theorem exec_frameArrival {f : Frame} (ha : Arrives p x f s) :
    ∃ u, exec (.frameArrival p x f) s = .next (settle (takeArrival p x (copyOf x f) u))
      ∧ u.paths = pathsWith p x { (s.paths.get p).get x with rx := .nextWord } s ∧ u.clock = clockAtArrival p x s
      ∧ SameExcept [.paths, .clock] s u := by
  obtain ⟨hrstn, hsync, henabled, hsignal⟩ := ha
  have hreceiving : receiving s p x = true := by simp [receiving, pathRec, hasSignal, henabled, hsignal]
  have htaken : (receiving s p x && f[0] == syncWord) = true := Bool.and_eq_true_iff.mpr ⟨hreceiving, hsync⟩
  refine ⟨endPeriod p x (setPath p x { pathRec s p x with rx := .nextWord } s), ?_, ?_, ?_,
    (setPath_frame _ _ _ _).seq (endPeriod_frame _ _ _)⟩
  · exact (whileRunning_of_high (arriveFrame p x f) hrstn).trans (congrArg _ (if_pos htaken))
  · exact endPeriod_frame _ _ _ .paths (by decide)
  · rw [endPeriod_eq]
    rfl

end

/-- Settles O6. -/
theorem arrivalStartsOrContinuesAcquiring : Obligations.ArrivalStartsOrContinuesAcquiring := by
  refine ⟨fun x f => ?_, fun p x f s ha => ?_⟩
  · intro c wordAt
    have hword (n : Nat) (h : n < 143) : f[n] = wordAt (n + 1) := (frame_word f h).symm
    refine ⟨?_, rfl, ?_, ?_, ?_, fun i => ?_, fun ch j => ?_, fun j => ?_⟩
    · have hgood : c.good = (checkOver ((List.range 141).map fun n => wordAt (n + 2)) == (wordAt 143).setWidth 16) := by
        rw [← hword 142 (by decide)]
        exact congrArg (· == f[142].setWidth 16) ((frameCheck_eq _).trans (congrArg checkOver (checked_words f)))
      rw [hgood, beq_iff_eq]
    · rw [← hword 1 (by decide)]
      exact ofNat_bitsAt f[1] 31 20
    · rw [← hword 1 (by decide)]
      exact ofNat_bitsAt f[1] 19 4
    · rw [← hword 1 (by decide)]
      rfl
    · rw [show 3 + i.val = 2 + i.val + 1 by omega, ← hword (2 + i.val) (by omega)]
      simp [c, copyOf]
    · rw [show 7 + 8 * ch.val + j.val = 6 + 8 * ch.val + j.val + 1 by omega, ← hword (6 + 8 * ch.val + j.val) (by omega)]
      simp [c, copyOf, sampleOf]
    · rw [show 135 + j.val = 134 + j.val + 1 by omega, ← hword (134 + j.val) (by omega)]
      simp [c, copyOf, sampleOf]
  · intro r c hstate
    obtain ⟨u, he, hpaths, hclock, hsame⟩ := exec_frameArrival ha
    have hrec : pathRec u p x = { r with rx := .nextWord } := by
      rw [pathRec, hpaths, pathsWith, PerPort.get_set_self, PerPath.get_set_self]
    obtain ⟨r', htaken, hdark, hacquire⟩ : ∃ r', takeArrival p x c u = setPath p x r' u
        ∧ (r.state = .dark → r' = beganAcquiring c) ∧ (r.state = .acquire → r' = acquired c r) := by
      rcases hstate with hstate | hstate
      · exact ⟨_, takeArrival_dark c (by rw [hrec]; exact hstate) (by rw [hrec]), fun _ => rfl,
          fun h => absurd (hstate.symm.trans h) (by decide)⟩
      · exact ⟨_, takeArrival_acquire c (by rw [hrec]; exact hstate) (by rw [hrec]),
          fun h => absurd (hstate.symm.trans h) (by decide), fun _ => by rw [hrec]; rfl⟩
    rw [htaken] at he
    have hset : SameExcept [.paths] u (setPath p x r' u) := setPath_frame _ _ _ _
    have hsettled := settle_frame (setPath p x r' u)
    have hleft : (settle (setPath p x r' u)).paths = pathsWith p x r' s := by
      rw [hsettled .paths (by decide)]
      change u.paths.set p ((u.paths.get p).set x r') = _
      rw [hpaths, pathsWith, PerPort.get_set_self, PerPort.set_set_self, PerPath.set_set_self]
      rfl
    refine ⟨_, he, fun h => ?_, fun h => ?_, ?_, onlyConditionsReported_settle ?_,
      (hsame.mono (by simp)).trans ((hset.mono (by simp)).trans (hsettled.mono (by simp)))⟩
    · rw [hleft, hdark h]
      rfl
    · rw [hleft, hacquire h]
      rfl
    · rw [hsettled .clock (by decide), hset .clock (by decide), hclock]
    · rw [hset .faults (by decide), hsame .faults (by decide)]

end Sys2Proof.Safety
end

section
/-! PROOFS. What each control word does to the message in progress, and what a completed message is (R40 to R46). -/

namespace Sys2Proof.Safety
open Sys2Proof.Machine
/-! ## Control words (R40 to R44) -/

theorem wordType_eq (w : Word) : wordType w = w.toNat / 2 ^ 30 := by
  rw [wordType, bitsAt]
  omega

/-- The assembly record that a HEAD word begins, by the word's fields. -/
theorem headAssembly_eq (address : BitVec 2) (w : Word) : headAssembly address w =
    { unit := w.extractLsb' 27 3, kind := w.extractLsb' 21 6, length := (w.extractLsb' 17 4).toNat
      tag := w.extractLsb' 9 8, arg := w.extractLsb' 0 9
      forUs := decide (w.extractLsb' 27 3 = 0#1 ++ address ∨ w.extractLsb' 27 3 = 7), count := 0, body := [] } := by
  have hunit : BitVec.ofNat 3 (bitsAt 29 27 w.toNat) = w.extractLsb' 27 3 := ofNat_bitsAt w 29 27
  have hkind : BitVec.ofNat 6 (bitsAt 26 21 w.toNat) = w.extractLsb' 21 6 := ofNat_bitsAt w 26 21
  have htag : BitVec.ofNat 8 (bitsAt 16 9 w.toNat) = w.extractLsb' 9 8 := ofNat_bitsAt w 16 9
  have harg : BitVec.ofNat 9 (bitsAt 8 0 w.toNat) = w.extractLsb' 0 9 := ofNat_bitsAt w 8 0
  have hlength : bitsAt 20 17 w.toNat = (w.extractLsb' 17 4).toNat := (extract_toNat w 17 4).symm
  have hnumber : bitsAt 29 27 w.toNat = (w.extractLsb' 27 3).toNat := (extract_toNat w 27 3).symm
  have hus : ∀ (a : BitVec 2) (u : BitVec 3), (u.toNat == a.toNat || u.toNat == 7) = decide (u = 0#1 ++ a ∨ u = 7) := by
    decide
  rw [headAssembly, hunit, hkind, htag, harg, hlength, hnumber, hus]

section
variable {p : Port} {w : Word} {s : State}

set_option Elab.async false in
theorem dropPartial_of_others {a : Assembly} (h : (s.lanes.get p).asm = some a) (hus : ¬ a.forUs = true) :
    dropPartial p s = setAssembly p none s := by
  unfold dropPartial
  rw [h]
  exact if_neg hus

@[simp] theorem setAssembly_setAssembly (p : Port) (a b : Option Assembly) (s : State) :
    setAssembly p b (setAssembly p a s) = setAssembly p b s := by
  cases p <;> rfl

theorem finishMessage_of_others {a : Assembly} (h : ¬ a.forUs = true) : finishMessage p a s
    = setAssembly p none s := if_neg h

theorem finishMessage_forUs {a : Assembly} (h : a.forUs = true) :
    finishMessage p a s = completeMessage p a.kind ⟨a.tag, a.arg, a.body⟩ (setAssembly p none s) := if_pos h

theorem takeWord_head (h : w.toNat / 2 ^ 30 = 1) : takeWord p w s = takeHead p w s := by
  unfold takeWord
  rw [wordType_eq, h]
  rfl

theorem takeWord_body (h : w.toNat / 2 ^ 30 = 2) : takeWord p w s = takeBody p w s := by
  unfold takeWord
  rw [wordType_eq, h]
  rfl

theorem takeWord_break (h : w.toNat / 2 ^ 30 = 3) : takeWord p w s = dropPartial p s := by
  unfold takeWord
  rw [wordType_eq, h]
  rfl

theorem takeBody_stray (h : (s.lanes.get p).asm = none) : takeBody p w s = raiseAt .controlDrop p s := by
  unfold takeBody
  rw [h]

/-- A message in progress with one BODY word more. -/
def advanced (w : Word) (a : Assembly) : Assembly :=
  { a with count := a.count + 1, body := if a.forUs then a.body ++ [w.setWidth 30] else a.body }

theorem takeBody_advances {a : Assembly} (h : (s.lanes.get p).asm = some a) : takeBody p w s =
    if a.length ≤ a.count + 1 then finishMessage p (advanced w a) s else setAssembly p (some (advanced w a)) s := by
  unfold takeBody
  rw [h]
  rfl

theorem takeHead_begins (h : 0 < (headAssembly s.unitAddr w).length) :
    takeHead p w s = setAssembly p (some (headAssembly s.unitAddr w)) (dropPartial p s) := if_neg (Nat.ne_of_gt h)

theorem takeHead_completes (h : (headAssembly s.unitAddr w).length = 0) : takeHead p w s =
    finishMessage p (headAssembly s.unitAddr w)
        (setAssembly p (some (headAssembly s.unitAddr w)) (dropPartial p s)) := if_pos h

end

/-! ## Every message is some row's (R45, R46) -/

/-- The number of a kind. -/
def kindNo : Kind → BitVec 6
  | .keepalive => 1 | .claimChannels => 2 | .releaseChannels => 3 | .claimOutputs => 4 | .releaseOutputs => 5
  | .readOwners => 6 | .setGain => 7 | .setPad => 8 | .setPhantom => 9 | .readMeters => 10 | .setTrim => 11
  | .setTracking => 12 | .readTracking => 13 | .phantomReset => 14 | .readPhantom => 15 | .readChanges => 16
  | .readChannels => 17 | .writeSetting => 18 | .readSettings => 19 | .readClock => 20 | .setOutput => 21
  | .readOutputs => 22 | .talk => 23 | .ackCall => 24 | .clearFaults => 25 | .readFaults => 26

theorem kindOf_cases (kind : BitVec 6) : (kindOf kind).elim (unknownKind kind) (kindNo · == kind) = true := by
  revert kind
  decide

/-- The row of a write of an item. -/
def settingRow (p : Port) (m : SettingMsg) : Item → Instr
  | .clockPriority => .writeClockPriority p m
  | .pathEnable => .writePathEnable p m
  | .timeout q => .writePresenceTimeout p q m
  | .policy q => .writePresencePolicy p q m
  | .trip => .writePhantomTrip p m
  | .key k => .writeKeyConfig p k m
  | .talkSource => .writeTalkSource p m
  | .talkLevel => .writeStageTalkLevel p m
  | .duckDepth => .writeDuckDepth p m
  | .alarm f => .writeAlarmMap p f m

set_option Elab.async false in
theorem settingRow_message (p : Port) (m : SettingMsg) (i : Item) :
    messageOf (settingRow p m i) = some (p, 18, itemMsg i m) := by
  cases i <;> rfl

theorem settingRow_wf {m : SettingMsg} (h : m.body.length ≤ 15) (p : Port) (i : Item) : (settingRow p m i).wf = true := by
  cases i <;> exact decide_eq_true h

/-- A message of the kind of a row is that row's. -/
theorem exists_row (p : Port) (m : Msg) (k : Kind) :
    ∃ c, messageOf c = some (p, kindNo k, m) ∧ (m.body.length ≤ 15 → c.wf = true) := by
  cases k
  case keepalive => exact ⟨.keepalive p m, rfl, decide_eq_true⟩
  case claimChannels => exact ⟨.claimChannels p m, rfl, decide_eq_true⟩
  case releaseChannels => exact ⟨.releaseChannels p m, rfl, decide_eq_true⟩
  case claimOutputs => exact ⟨.claimOutputs p m, rfl, decide_eq_true⟩
  case releaseOutputs => exact ⟨.releaseOutputs p m, rfl, decide_eq_true⟩
  case readOwners => exact ⟨.readOwners p m, rfl, decide_eq_true⟩
  case setGain => exact ⟨.setGain p m, rfl, decide_eq_true⟩
  case setPad => exact ⟨.setPad p m, rfl, decide_eq_true⟩
  case setPhantom => exact ⟨.setPhantom p m, rfl, decide_eq_true⟩
  case readMeters => exact ⟨.readMeters p m, rfl, decide_eq_true⟩
  case setTrim => exact ⟨.setTrim p m, rfl, decide_eq_true⟩
  case setTracking => exact ⟨.setTracking p m, rfl, decide_eq_true⟩
  case readTracking => exact ⟨.readTracking p m, rfl, decide_eq_true⟩
  case phantomReset => exact ⟨.phantomReset p m, rfl, decide_eq_true⟩
  case readPhantom => exact ⟨.readPhantom p m, rfl, decide_eq_true⟩
  case readChanges => exact ⟨.readChanges p m, rfl, decide_eq_true⟩
  case readChannels => exact ⟨.readChannels p m, rfl, decide_eq_true⟩
  case writeSetting =>
    by_cases h : m.arg.toNat < 28
    · have hitem := (by decide : ∀ n : Fin 28, (itemOf n.val).map itemNo = some n.val) ⟨m.arg.toNat, h⟩
      obtain ⟨i, -, hi⟩ := Option.map_eq_some_iff.mp hitem
      have hm : itemMsg i ⟨m.tag, m.body⟩ = m := by
        obtain ⟨tag, arg, body⟩ := m
        rw [itemMsg, hi]
        exact congrArg (Msg.mk tag · body) ((BitVec.ofNat_toNat 9 arg).trans (BitVec.setWidth_eq arg))
      exact ⟨settingRow p ⟨m.tag, m.body⟩ i, (settingRow_message _ _ _).trans (by rw [hm]; rfl),
        fun hlength => settingRow_wf hlength p i⟩
    · exact ⟨.writeSettingBadItem p m, rfl,
        fun hlength => Bool.and_eq_true_iff.mpr ⟨decide_eq_true (by omega), decide_eq_true hlength⟩⟩
  case readSettings => exact ⟨.readSettings p m, rfl, decide_eq_true⟩
  case readClock => exact ⟨.readClock p m, rfl, decide_eq_true⟩
  case setOutput => exact ⟨.setOutput p m, rfl, decide_eq_true⟩
  case readOutputs => exact ⟨.readOutputs p m, rfl, decide_eq_true⟩
  case talk => exact ⟨.talk p m, rfl, decide_eq_true⟩
  case ackCall => exact ⟨.ackCall p m, rfl, decide_eq_true⟩
  case clearFaults => exact ⟨.clearFaults p m, rfl, decide_eq_true⟩
  case readFaults => exact ⟨.readFaults p m, rfl, decide_eq_true⟩

/-- Settles O19. -/
theorem controlWordsAssembleMessages : Obligations.ControlWordsAssembleMessages := by
  refine ⟨fun p w s => ?_, fun c p kind m s h hrstn honline => ?_, fun p kind m => ?_⟩
  · intro asm type holding forUs
    refine ⟨fun h => ?_, fun h hasm => ?_, fun a h hasm => ⟨fun hus => ?_, fun hus => ?_⟩, fun h hasm => ?_,
      fun a h hasm hmore => ?_, fun a h hasm hlast => ⟨fun hus => ?_, fun hus => ?_⟩, fun h => ?_⟩
    · exact takeWord_idle (by omega) s
    · exact (takeWord_break h).trans (dropPartial_none hasm)
    · exact (takeWord_break h).trans (dropPartial_of_others hasm hus)
    · exact (takeWord_break h).trans (dropPartial_forUs hasm hus)
    · exact (takeWord_body h).trans (takeBody_stray hasm)
    · exact (takeWord_body h).trans ((takeBody_advances hasm).trans (if_neg (by omega)))
    · exact (takeWord_body h).trans ((takeBody_advances hasm).trans ((if_pos hlast).trans (finishMessage_of_others hus)))
    · refine (takeWord_body h).trans ((takeBody_advances hasm).trans ((if_pos hlast).trans
        ((finishMessage_forUs (a := advanced w a) hus).trans ?_)))
      rw [advanced, if_pos hus]
      rfl
    · intro dropped us length
      have hdropped : dropPartial p s = dropped := by
        simp only [dropped, asm]
        cases hasm : (s.lanes.get p).asm with
        | none => exact dropPartial_none hasm
        | some a =>
          by_cases hus : a.forUs = true
          · exact (dropPartial_forUs hasm hus).trans (if_pos hus).symm
          · exact (dropPartial_of_others hasm hus).trans (if_neg hus).symm
      have hhead := headAssembly_eq s.unitAddr w
      rw [takeWord_head h]
      refine ⟨fun hlength => ?_, fun hlength hus => ?_, fun hlength hus => ?_⟩
      · rw [takeHead_begins (by rw [hhead]; exact hlength), hhead, hdropped]
        rfl
      · rw [takeHead_completes (by rw [hhead]; exact hlength), hhead,
          finishMessage_of_others (by simpa only [decide_eq_true_eq] using hus), setAssembly_setAssembly, hdropped]
        rfl
      · rw [takeHead_completes (by rw [hhead]; exact hlength), hhead,
          finishMessage_forUs (by simpa only [decide_eq_true_eq] using hus), setAssembly_setAssembly, hdropped]
        rfl
  · rw [exec_message h, whileRunning_of_high _ hrstn, fromDesk, honline]
    rfl
  · have hkind := kindOf_cases kind
    cases hk : kindOf kind with
    | some k =>
      rw [hk] at hkind
      obtain rfl : kindNo k = kind := beq_iff_eq.mp hkind
      exact exists_row p m k
    | none =>
      rw [hk] at hkind
      exact ⟨.unknownKindMessage p kind m, rfl, fun h => Bool.and_eq_true_iff.mpr ⟨hkind, decide_eq_true h⟩⟩

end Sys2Proof.Safety
end

section
/-! PROOFS. The upstream frame of a port (R23, R51, R53, R54, R89, R106, R107, R167, R168). -/

namespace Sys2Proof.Safety
open Sys2Proof.Machine
/-! ## The header and the status words (R23, R53, R54) -/

theorem upHeader_eq (s : State) : upHeader s = s.frameNo ++ 0#18 ++ s.unitAddr := by
  rw [upHeader, wordOf_reverse]
  refine ofNat_eq_of_placed ?_
  simp only [List.reverse_cons, List.reverse_nil, List.nil_append, List.cons_append, placed_append, placed_zero, fieldAt_eq,
    sum_field_cons, sum_field_nil, BitVec.ofNat_toNat, BitVec.setWidth_eq, Nat.add_zero, Nat.zero_add, -Nat.reduceAdd]

/-- How many paths carry a port, as its status bits. -/
def portBits (s : State) (q : Port) : BitVec 2 :=
  let up (x : PathName) : Bool :=
    let r := (s.paths.get q).get x
    r.state == .up || r.state == .degraded
  BitVec.ofNat 2 ((up .a).toNat + (up .b).toNat)

theorem portState_bits (s : State) (q : Port) : BitVec.ofNat 2 (portState s q) = portBits s q := rfl

/-- Status word 0 by its bits (R53). -/
theorem statusWord0_eq (s : State) (p : Port) :
    let call (k : KeyId) : BitVec 1 := BitVec.ofBool ((s.calls.get p)[k]'k.2).pending
    statusWord0 s p = BitVec.ofBool (s.presence.get p).present ++ portBits s .p0 ++ portBits s .p1 ++ portBits s .p2
      ++ BitVec.ofNat 2 (partyCode s.clock.source) ++ BitVec.ofBool (s.faults.sticky.get p != 0)
      ++ call 3 ++ call 2 ++ call 1 ++ call 0 ++ s.unitAddr ++ s.journal.gen.setWidth 16 := by
  intro call
  have hsum (a b c d e f g h i j k l : Nat) :
      [a, b, c, d, e, f, g, h, i, j, k, l].sum = [h, g, i, j, k, l, f, e, d, c, b, a].sum := by
    simp only [sum_field_cons, sum_field_nil]
    omega
  have hfields : statusWord0 s p = BitVec.ofNat 32 [fieldAt 15 0 (genLow s), fieldAt 17 16 s.unitAddr.toNat,
      flagAt 18 ((s.calls.get p)[(0 : KeyId)]'(0 : KeyId).2).pending,
          flagAt 19 ((s.calls.get p)[(1 : KeyId)]'(1 : KeyId).2).pending,
      flagAt 20 ((s.calls.get p)[(2 : KeyId)]'(2 : KeyId).2).pending,
          flagAt 21 ((s.calls.get p)[(3 : KeyId)]'(3 : KeyId).2).pending,
      flagAt 22 (s.faults.sticky.get p != 0), fieldAt 24 23 (partyCode s.clock.source), fieldAt 26 25 (portState s .p2),
      fieldAt 28 27 (portState s .p1), fieldAt 30 29 (portState s .p0), flagAt 31 (s.presence.get p).present].sum :=
    congrArg (BitVec.ofNat 32) (hsum _ _ _ _ _ _ _ _ _ _ _ _)
  have hgen : fieldAt 15 0 (genLow s) = (s.journal.gen.setWidth 16).toNat * 2 ^ 0 := by
    rw [genLow, fieldAt_low _ rfl, BitVec.ofNat_toNat]
  have hport (q : Port) (hi lo : Nat) (h : hi + 1 - lo = 2) : fieldAt hi lo (portState s q)
      = (portBits s q).toNat * 2 ^ lo := by
    rw [fieldAt_eq, h, portState_bits]
  have hparty : fieldAt 24 23 (partyCode s.clock.source) = (BitVec.ofNat 2 (partyCode s.clock.source)).toNat * 2 ^ 23 :=
    fieldAt_eq 24 23 _
  have haddress : fieldAt 17 16 s.unitAddr.toNat = s.unitAddr.toNat * 2 ^ 16 := by
    rw [fieldAt_eq, BitVec.ofNat_toNat, BitVec.setWidth_eq]
  rw [hfields]
  refine ofNat_eq_of_placed ?_
  simp only [call, placed_append, hgen, hport _ 30 29 rfl, hport _ 28 27 rfl, hport _ 26 25 rfl, hparty, haddress, flagAt_eq,
    sum_field_cons, sum_field_nil, Nat.add_zero, -Nat.reduceAdd]

/-- Status word 1 by its bits (R54). -/
theorem statusWord1_eq (s : State) (p : Port) :
    let notNormal (b : BankId) : BitVec 1 := BitVec.ofBool ((s.phantom.banks[b]'b.2).state != .normal)
    statusWord1 s p = s.faults.sticky.get p ++ notNormal 5 ++ notNormal 4 ++ notNormal 3 ++ notNormal 2 ++ notNormal
        1 ++ notNormal 0
      ++ BitVec.ofNat 4 (s.lanes.get p).queue.length ++ BitVec.ofBool (trackLimitHolds s p)
      ++ BitVec.ofBool (stageTalkActive s p) ++ 0#8 := by
  intro notNormal
  have hsum (a b c d e f g h i j : Nat) : [a, b, c, d, e, f, g, h, i, j].sum = [d, c, b, e, f, g, h, i, j, a].sum := by
    simp only [sum_field_cons, sum_field_nil]
    omega
  have hfields : statusWord1 s p = BitVec.ofNat 32 [flagAt 8 (stageTalkActive s p), flagAt 9 (trackLimitHolds s p),
      fieldAt 13 10 (s.lanes.get p).queue.length,
          flagAt 14 ((s.phantom.banks[(0 : BankId)]'(0 : BankId).2).state != .normal),
      flagAt 15 ((s.phantom.banks[(1 : BankId)]'(1 : BankId).2).state != .normal),
          flagAt 16 ((s.phantom.banks[(2 : BankId)]'(2 : BankId).2).state != .normal),
      flagAt 17 ((s.phantom.banks[(3 : BankId)]'(3 : BankId).2).state != .normal),
          flagAt 18 ((s.phantom.banks[(4 : BankId)]'(4 : BankId).2).state != .normal),
      flagAt 19 ((s.phantom.banks[(5 : BankId)]'(5 : BankId).2).state != .normal),
          fieldAt 31 20 (s.faults.sticky.get p).toNat].sum :=
    congrArg (BitVec.ofNat 32) (hsum _ _ _ _ _ _ _ _ _ _)
  have hsticky : fieldAt 31 20 (s.faults.sticky.get p).toNat = (s.faults.sticky.get p).toNat * 2 ^ 20 := by
    rw [fieldAt_eq, BitVec.ofNat_toNat, BitVec.setWidth_eq]
  have hdepth : fieldAt 13 10 (s.lanes.get p).queue.length = (BitVec.ofNat 4 (s.lanes.get p).queue.length).toNat * 2 ^ 10 :=
    fieldAt_eq 13 10 _
  rw [hfields]
  refine ofNat_eq_of_placed ?_
  simp only [notNormal, placed_append, placed_zero, hsticky, hdepth, flagAt_eq, sum_field_cons, sum_field_nil, Nat.add_zero,
    Nat.zero_add, -Nat.reduceAdd]

/-! ## Samples (R106, R107, R167, R168) -/

theorem handedOn_get (s : State) (c : Chan) (j : Fin 8) : ((handedOn s c)[j]'j.2) = heardSample s c j := by
  rw [handedOn, heardSample]
  split
  · simp [zeroFrame]
  · rfl

theorem scaleFrame_get (s : State) (c : Chan) (D : Int) (j : Fin 8) :
    ((scaleFrame (handedOn s c) D).1[j]'j.2) = (gainFunction (heardSample s c j) D).1 := by
  rw [← handedOn_get]
  simp [scaleFrame]

theorem scaleFrame_saturates (s : State) (c : Chan) (D : Int) :
    (scaleFrame (handedOn s c) D).2 = (List.finRange 8).any fun j => (gainFunction (heardSample s c j) D).2 := by
  simp only [scaleFrame, handedOn_get]

theorem talking_iff (s : State) (k : KeyId) : talking s k = true ↔
    if (s.settings.keys[k]'k.2).latch then ((s.keys[k]'k.2).state = .released ∨ (s.keys[k]'k.2).state = .pressed)
        ∧ (s.keys[k]'k.2).toggle = true
    else (s.keys[k]'k.2).state = .pressed := by
  unfold talking
  split
  · next h => rw [Bool.and_eq_true, Bool.or_eq_true, beq_iff_eq, beq_iff_eq]; exact iff_of_eq (if_pos h).symm
  · next h => rw [beq_iff_eq]; exact iff_of_eq (if_neg h).symm

/-! ## The words of a frame (chapter 12) -/

set_option Elab.async false in
/-- Frames of 8 samples one after another, read at a sample of one of them. -/
theorem flatMap_frames_get (l : List SampleFrame) (c : Nat) (h : c < l.length) (j : Fin 8) (rest : List Word) :
    ((l.flatMap fun ch => ch.toList.map sampleWord) ++ rest)[8 * c + j.val]? = some (sampleWord l[c][j]) := by
  induction l generalizing c with
  | nil => exact absurd h (Nat.not_lt_zero c)
  | cons v l ih =>
    have hlength : (v.toList.map sampleWord).length = 8 := by simp
    rw [List.flatMap_cons, List.append_assoc]
    cases c with
    | zero =>
      rw [List.getElem?_append_left (by rw [hlength]; omega)]
      simp
    | succ c =>
      rw [List.getElem?_append_right (by rw [hlength]; omega), hlength, show 8 * (c + 1) + j.val - 8
          = 8 * c + j.val by omega]
      exact ih c (Nat.lt_of_succ_lt_succ h)

theorem length_flatMap_frames (l : List SampleFrame) :
    (l.flatMap fun ch => ch.toList.map sampleWord).length = 8 * l.length := by
  induction l with
  | nil => rfl
  | cons v l ih => rw [List.flatMap_cons, List.length_append, ih]; simp; omega

theorem length_checked (f : UpFrame) : f.checked.length = 399 := by
  simp only [UpFrame.checked, List.length_append, length_flatMap_frames]
  simp

theorem zeros_append (n : Nat) {w : Nat} (x : BitVec w) : 0#n ++ x = x.setWidth (n + w) := by
  refine BitVec.eq_of_toNat_eq ?_
  rw [toNat_append_add, BitVec.toNat_setWidth, BitVec.toNat_ofNat, Nat.zero_mod, Nat.zero_mul, Nat.zero_add,
    Nat.mod_eq_of_lt (lt_of_lt_of_le x.isLt (Nat.pow_le_pow_right (by decide) (by omega)))]

/-- The words of a frame: eight words, the channels' samples, the stage talk samples and the check. -/
theorem words_eq (f : UpFrame) : f.words =
    ([0xC3A55A3C, f.header, f.status0, f.status1] ++ f.replies.toList)
      ++ ((f.mic.toList.flatMap fun ch => ch.toList.map sampleWord)
        ++ (f.talk.toList.map sampleWord ++ [f.check.setWidth 32])) := by
  simp only [UpFrame.words, UpFrame.checked, List.append_assoc, List.cons_append, List.nil_append]
  rfl

section
variable (f : UpFrame)

theorem length_words : f.words.length = 401 := by
  rw [UpFrame.words, List.length_append, List.length_cons, length_checked]
  rfl

theorem checked_eq : f.checked = (f.words.drop 1).take 399 := by
  rw [UpFrame.words, List.cons_append, List.drop_one, List.tail_cons, List.take_left' (length_checked f)]

theorem words_first : f.words[0]? = some 0xC3A55A3C ∧ f.words[1]? = some f.header ∧ f.words[2]? = some f.status0
    ∧ f.words[3]? = some f.status1 := ⟨rfl, rfl, rfl, rfl⟩

theorem words_reply (i : Fin 4) : f.words[4 + i.val]? = some (f.replies[i]'i.2) := by
  rw [words_eq, List.getElem?_append_left (by simp; omega), List.getElem?_append_right (by simp)]
  simp

/-- The words after the first eight. -/
theorem words_after (k : Nat) : f.words[8 + k]? = ((f.mic.toList.flatMap fun ch => ch.toList.map sampleWord)
    ++ (f.talk.toList.map sampleWord ++ [f.check.setWidth 32]))[k]? := by
  rw [words_eq, List.getElem?_append_right (by simp)]
  simp

theorem words_mic (c : Chan) (j : Fin 8) : f.words[8 + (8 * c.val + j.val)]? = some (0#8 ++ ((f.mic[c]'c.2)[j]'j.2)) := by
  rw [words_after, flatMap_frames_get _ c.val (by simp), zeros_append]
  simp [sampleWord]

theorem words_talk (j : Fin 8) : f.words[8 + (384 + j.val)]? = some (0#8 ++ (f.talk[j]'j.2)) := by
  rw [words_after, List.getElem?_append_right (by simp), length_flatMap_frames,
    List.getElem?_append_left (by simp), zeros_append]
  simp [sampleWord]

set_option Elab.async false in
theorem words_check : f.words[8 + 392]? = some (0#16 ++ f.check) := by
  rw [words_after, List.getElem?_append_right (by simp), length_flatMap_frames,
    List.getElem?_append_right (by simp), zeros_append]
  simp

end

/-! ## A frame built (R23, R51, R89) -/

theorem buildFrame_lanes (s : State) (p : Port) :
    (buildFrame s p).lanes = s.lanes.set p (laneAfter s.unitAddr (s.lanes.get p) 4) := rfl

theorem buildFrame_meters (s : State) (p : Port) : (buildFrame s p).meters = s.meters.set p (Vector.ofFn fun c : Chan =>
    { ((s.meters.get p)[c]'c.2) with sendClip := ((s.meters.get p)[c]'c.2).sendClip || (micFrame s p c).2 }) := rfl

theorem buildFrame_sent (s : State) (p : Port) :
    (buildFrame s p).sent = s.sent.set p { frame := some (upFrame s p), on := s.settings.pathEnable.get p } := rfl

/-- A frame with its check: nothing before the check depends on it. -/
theorem checked_withCheck (f : UpFrame) (v : BitVec 16) : { f with check := v }.checked = f.checked := rfl

theorem upFrame_check (s : State) (p : Port) : (upFrame s p).check = checkOver (((upFrame s p).words.drop 1).take 399) := by
  have hchecked : (upFrame s p).checked = (uncheckedFrame s p).checked :=
    checked_withCheck (uncheckedFrame s p) (frameCheck (uncheckedFrame s p).checked)
  have hcheck : (upFrame s p).check = frameCheck (uncheckedFrame s p).checked := by rw [upFrame]
  rw [← checked_eq, hchecked, hcheck, frameCheck_eq]

/-- Settles O16. -/
theorem upstreamFrameCarriesTheStateAsItStands : Obligations.UpstreamFrameCarriesTheStateAsItStands := by
  intro p s t f up state call notNormal talks scaled lane
  have hlane : (takeReplies p s).lanes.get p = lane := PerPort.get_set_self _ _ _
  have hstatus1 : f.status1 = statusWord1 (takeReplies p s) p := rfl
  obtain ⟨hfirst, hsecond, hthird, hfourth⟩ := words_first f
  refine ⟨upHeader_eq s, statusWord0_eq (takeReplies p s) p,
    ⟨trackLimitHolds s p, stageTalkActive s p, ?_, trackLimitHolds_iff, ?_, fun j => ?_⟩, rfl, fun c j => ?_,
        upFrame_check s p, length_words f,
    ⟨hfirst, hsecond, hthird, hfourth, fun i => ?_, fun c j => ?_, fun j => ?_, words_check f⟩, buildFrame_sent s p,
        buildFrame_lanes s p,
    fun c => ?_, fun q hq => ?_, (buildFrame_frame s p).mono (by simp)⟩
  · rw [hstatus1, statusWord1_eq, hlane]
    rfl
  · simp only [stageTalkActive, List.any_eq_true, List.mem_finRange, true_and, Bool.and_eq_true, talking_iff, and_assoc,
      keyConfig]
    rfl
  · change (stageTalk s p)[j] = _
    rw [stageTalk]
    split
    · exact scaleFrame_get s _ _ j
    · simp [zeroFrame]
  · change (Vector.ofFn fun c : Chan => (micFrame s p c).1)[c][j] = _
    simp only [Fin.getElem_fin, Vector.getElem_ofFn]
    exact scaleFrame_get s c _ j
  · change f.words[5 + i.val - 1]? = _
    rw [show 5 + i.val - 1 = 4 + i.val by omega]
    exact words_reply f i
  · change f.words[9 + 8 * c.val + j.val - 1]? = _
    rw [show 9 + 8 * c.val + j.val - 1 = 8 + (8 * c.val + j.val) by omega]
    exact words_mic f c j
  · change f.words[393 + j.val - 1]? = _
    rw [show 393 + j.val - 1 = 8 + (384 + j.val) by omega]
    exact words_talk f j
  · rw [buildFrame_meters, PerPort.get_set_self, Fin.getElem_fin, Vector.getElem_ofFn]
    exact congrArg (fun b => { (s.meters.get p)[c] with sendClip := (s.meters.get p)[c].sendClip || b })
      (scaleFrame_saturates s c _)
  · rw [buildFrame_meters, PerPort.get_set_ne _ _ hq]

end Sys2Proof.Safety
end

section
/-! PROOFS. The boundary: its units of work, the frames that they leave, and its end (R23, R24, R26, R103, R111, R140,
R153, R154). -/

namespace Sys2Proof.Safety
open Sys2Proof.Machine
/-! ## The marks of a boundary -/

/-- From one state to another a boundary's marks are only added to, and the frames' is not among them. -/
def Marks (s t : State) : Prop := ∃ l : List Work, .build ∉ l ∧ t.latch.taken = l ++ s.latch.taken

namespace Marks

theorem of_taken {s t : State} (h : t.latch.taken = s.latch.taken) : Marks s t := ⟨[], List.not_mem_nil, h⟩

theorem of_frame {l : List Block} {s t : State} (h : SameExcept l s t) (hl : .latch ∉ l := by decide) : Marks s t :=
  of_taken (congrArg Latch.taken (h .latch hl))

theorem refl (s : State) : Marks s s := of_taken rfl

theorem trans {s t u : State} (h : Marks s t) (h' : Marks t u) : Marks s u := by
  obtain ⟨l, hl, ht⟩ := h
  obtain ⟨l', hl', hu⟩ := h'
  exact ⟨l' ++ l, by simp [hl, hl'], by rw [hu, ht, List.append_assoc]⟩

theorem markTaken {w : Work} (h : w ≠ .build) (s : State) : Marks s (markTaken w s) :=
  ⟨[w], by simpa using h.symm, markTaken_latch w s ▸ rfl⟩

set_option Elab.async false in
theorem keeps {s t : State} (h : Marks s t) {w : Work} (hw : w ∈ s.latch.taken) : w ∈ t.latch.taken := by
  obtain ⟨l, -, ht⟩ := h
  rw [ht]
  exact List.mem_append_right _ hw

theorem build_iff {s t : State} (h : Marks s t) : .build ∈ t.latch.taken ↔ .build ∈ s.latch.taken := by
  obtain ⟨l, hl, ht⟩ := h
  rw [ht, List.mem_append, or_iff_right hl]

end Marks

theorem goOnline_marks (p x acq s) : Marks s (goOnline p x acq s) := by
  unfold goOnline
  dsimp only
  refine Marks.trans ?_ (.of_frame (reselect_frame _))
  cases acq <;> exact .of_taken rfl

theorem scoreAcquire_marks (p x s) : Marks s (scoreAcquire p x s) := by
  have hset (r : PathRec) : Marks s (setPath p x r s) := .of_frame (setPath_frame _ _ _ _)
  unfold scoreAcquire goUp
  dsimp only
  repeat' split
  all_goals first
    | exact hset _
    | exact (hset _).trans (.of_frame (placeCopy_frame _ _ _))
    | exact (hset _).trans (goOnline_marks _ _ _ _)

theorem scorePath_marks (p x s) : Marks s (scorePath p x s) := by
  have hcarrying : Marks s (scoreCarrying p x s) := .of_frame (scoreCarrying_frame p x s)
  unfold scorePath
  split
  case h_1 => exact .refl s
  case h_2 => exact .refl s
  case h_3 => exact (scoreAcquire_marks p x s).trans (.of_frame (settle_frame _))
  all_goals exact hcarrying.trans (.of_frame (settle_frame _))

theorem playout_marks (p s) : Marks s (playout p s) := by
  have hmissed : Marks s (missFrame p s) := by
    unfold missFrame
    dsimp only
    refine Marks.trans ?_ (.of_frame (dropPartial_frame _ _))
    repeat' split
    · exact .of_taken rfl
    · refine Marks.trans ?_ (.of_frame (resyncWindow_frame _ _))
      exact .of_taken rfl
    · exact .of_taken rfl
  have hdelivered (c : Copy) : Marks s (deliverFrame p c s) := by
    obtain ⟨-, hlatch, -⟩ := playedOn_eff p c s
    have hplayed : Marks s (playedOn p c s) := .of_taken (by rw [hlatch])
    rw [deliverFrame_eq]
    split
    · exact hplayed.trans (.of_frame (takeWords_frame _ _ _))
    · exact hplayed.trans (.of_frame (dropPartial_frame _ _))
  unfold playout playFrame
  dsimp only
  repeat' split
  · exact .of_taken rfl
  · exact .refl s
  · exact hmissed
  · exact hdelivered _
  · exact hmissed

theorem readingWork_marks (s) : Marks s (readingWork s) := by
  have hread (k : Bank) : Marks s (setBank s.phantom.scan k s) := .of_frame (setBank_frame _ _ _)
  have htripped (k : Bank) : Marks s (holdTimer s.phantom.scan (shedBank s.phantom.scan k s)) :=
    (Marks.of_frame (shedBank_frame _ _ _)).trans (.markTaken (by simp) _)
  unfold readingWork takeReading
  dsimp only
  repeat' split
  · exact htripped _
  · exact htripped _
  · exact htripped _
  · exact hread _
  · exact hread _
  · exact hread _

theorem bankWork_marks (b s) : Marks s (bankWork b s) := by
  obtain ⟨t, ht, hread⟩ : ∃ t, bankWork b s = (if fresh (.bank b) t then advanceBank b t else t) ∧ Marks s t := by
    refine ⟨_, rfl, ?_⟩
    split
    · exact (readingWork_marks s).trans (.markTaken (by simp) _)
    · exact .refl s
  rw [ht]
  split
  · exact hread.trans (.of_frame (advanceBank_frame _ _))
  · exact hread

/-- Whatever a unit of work does, it takes no other unit's mark away, and does not mark the frames built. -/
theorem workEffect_marks (w s) : Marks s (workEffect w s) := by
  cases w
  case score p x => exact scorePath_marks p x s
  case playout p => exact playout_marks p s
  case presence p => exact .of_frame (countPresence_frame p s)
  case capture c => exact .of_frame (captureFrame_frame c s)
  case mute c => exact .of_frame (countMute_frame c s)
  case reading => exact readingWork_marks s
  case bank b => exact bankWork_marks b s
  case holdoff o => exact .of_frame (countHoldoff_frame o s)
  case key k => exact .of_frame (keyWork_frame k s)
  case build => exact .of_frame (buildFrames_frame s)
  case stretch l => exact .of_frame (countStretch_frame l s)

/-! ## A unit of work (R4) -/

theorem takeWork_of_fresh {w : Work} {s : State} (h : w ∉ s.latch.taken) : takeWork s w = markTaken w (workEffect w s) :=
  if_pos (fresh_of_notTaken h)

theorem takeWork_of_taken {w : Work} {s : State} (h : w ∈ s.latch.taken) : takeWork s w = s :=
  if_neg (by simp [fresh, h])

theorem takeWork_takes (w : Work) (s : State) : w ∈ (takeWork s w).latch.taken := by
  by_cases h : w ∈ s.latch.taken
  · rw [takeWork_of_taken h]
    exact h
  · rw [takeWork_of_fresh h]
    exact .head _

set_option Elab.async false in
theorem takeWork_keeps_mark {v : Work} (w : Work) {s : State} (hv : v ∈ s.latch.taken) : v ∈ (takeWork s w).latch.taken := by
  by_cases h : w ∈ s.latch.taken
  · rw [takeWork_of_taken h]
    exact hv
  · rw [takeWork_of_fresh h]
    exact .tail _ ((workEffect_marks w s).keeps hv)

/-- Work taken in any order has been taken. -/
theorem foldl_takeWork_takes (ws : List Work) (s : State) {w : Work} (h : w ∈ s.latch.taken ∨ w ∈ ws) :
    w ∈ (ws.foldl takeWork s).latch.taken := by
  induction ws generalizing s with
  | nil => exact h.resolve_right List.not_mem_nil
  | cons v ws ih =>
    refine ih (takeWork s v) ?_
    rcases h with h | h
    · exact .inl (takeWork_keeps_mark v h)
    · rcases List.mem_cons.mp h with rfl | h
      · exact .inl (takeWork_takes w s)
      · exact .inr h

/-- A unit other than the frames' leaves the frames as they are, and so does the frames' once they have been built. -/
theorem takeWork_keeps_frames {w : Work} {s : State} (h : w ≠ .build ∨ .build ∈ s.latch.taken) :
    SameExcept playoutBlocks s (takeWork s w)
      ∧ (Work.build ∈ (takeWork s w).latch.taken ↔ .build ∈ s.latch.taken) := by
  by_cases ht : w ∈ s.latch.taken
  · rw [takeWork_of_taken ht]
    exact ⟨.refl _ _, Iff.rfl⟩
  · have hw : w ≠ .build := by
      rcases h with h | h
      · exact h
      · rintro rfl
        exact ht h
    have hmarks : Marks s (markTaken w (workEffect w s)) := (workEffect_marks w s).trans (.markTaken hw _)
    rw [takeWork_of_fresh ht]
    refine ⟨?_, hmarks.build_iff⟩
    refine SameExcept.trans ?_ ((markTaken_frame w (workEffect w s)).mono (by decide))
    cases w
    case score p x => exact (scorePath_frame p x s).mono (by decide)
    case playout p => exact playout_frame p s
    case presence p => exact (countPresence_frame p s).mono (by decide)
    case capture c => exact (captureFrame_frame c s).mono (by decide)
    case mute c => exact (countMute_frame c s).mono (by decide)
    case reading => exact (readingWork_frame s).mono (by decide)
    case bank b => exact (bankWork_frame b s).mono (by decide)
    case holdoff o => exact (countHoldoff_frame o s).mono (by decide)
    case key k => exact (keyWork_frame k s).mono (by decide)
    case build => exact absurd rfl hw
    case stretch l => exact (countStretch_frame l s).mono (by decide)

theorem foldl_takeWork_keeps_frames (ws : List Work) (s : State) (h : .build ∉ ws ∨ .build ∈ s.latch.taken) :
    SameExcept playoutBlocks s (ws.foldl takeWork s)
      ∧ (Work.build ∈ (ws.foldl takeWork s).latch.taken ↔ .build ∈ s.latch.taken) := by
  induction ws generalizing s with
  | nil => exact ⟨.refl _ _, Iff.rfl⟩
  | cons w ws ih =>
    have hw : w ≠ .build ∨ .build ∈ s.latch.taken := h.imp_left fun hws heq => hws (heq ▸ .head _)
    obtain ⟨hone, hmark⟩ := takeWork_keeps_frames hw
    obtain ⟨hrest, hmarks⟩ := ih (takeWork s w) (h.imp (fun hws hin => hws (.tail _ hin)) hmark.mpr)
    exact ⟨hone.trans hrest, hmarks.trans hmark⟩

/-! ## The end of a boundary (R103, R111, R140, R153, R154) -/

/-- What a boundary leaves, from the state that its work has left. -/
theorem exec_boundary {i : BoundaryInput} {s : State} (h : s.rstn = true) :
    exec (.stageFrameBoundary i) s = .next (endBoundary (afterWork i (workOf i) s)) := by
  have he : exec (.stageFrameBoundary i) s = whileRunning s (boundary i) := rfl
  rw [he, whileRunning_of_high _ h, boundary, afterWork, workOf]

theorem openBoundary_latch (s : State) : (openBoundary s).latch = s.latch := openBoundary_frame s .latch (by decide)

theorem latchInputs_taken (i : BoundaryInput) (s : State) : (latchInputs i (openBoundary s)).latch.taken
    = s.latch.taken := by
  simp only [latchInputs, State.withLatch_fields, openBoundary_latch]

theorem afterWork_start (i : BoundaryInput) (s : State) : SameExcept [.clock, .latch] s (latchInputs i (openBoundary s)) :=
  (openBoundary_frame s).seq (latchInputs_frame i _)

section
variable (u : State)

/-- The latches that the end of a boundary leaves. -/
theorem endBoundary_latch : (endBoundary u).latch =
    { u.latch with handoff := .of fun _ => .zero, cameUp := .of fun _ => false, taken := [] } := by
  obtain ⟨v, hv, hlatch⟩ : ∃ v : State, endBoundary u =
      v.withLatch { v.latch with handoff := .of fun _ => .zero, cameUp := .of fun _ => false, taken := [] }
      ∧ v.latch = u.latch := by
    refine ⟨_, rfl, ?_⟩
    exact (withPhantom_frame _ (fixPeriods (playOutputs u)) .latch (by decide)).trans
      ((fixPeriods_frame _ .latch (by decide)).trans (playOutputs_frame u .latch (by decide)))
  rw [hv, ← hlatch]
  rfl

theorem endBoundary_tracks (p : Port) (c : Chan) : (((endBoundary u).tracks.get p)[c]'c.2) =
    { ((u.tracks.get p)[c]'c.2) with period := ((u.tracks.get p)[c]'c.2).gain } := by
  have htracks : (playOutputs u).tracks = u.tracks := playOutputs_frame u .tracks (by decide)
  have hfixed : (endBoundary u).tracks = (fixPeriods (playOutputs u)).tracks :=
    (withLatch_frame _ _ .tracks (by decide)).trans (withPhantom_frame _ _ .tracks (by decide))
  rw [hfixed, ← htracks]
  simp [fixPeriods, PerPort.get_of]

theorem endBoundary_output (o : OutId) : ((endBoundary u).outputs[o]'o.2)
    = { stepped u o 8 with frame := outputFrame u o } := by
  rw [endBoundary_outputs, playOutputs_get]

end

/-- A weight after one sample period more. -/
theorem stepWeight_weightAfter (rises : Bool) (w k : Nat) :
    stepWeight rises (weightAfter rises w k) = weightAfter rises w (k + 1) := by
  cases rises
  · exact Nat.sub_sub w k 1
  · simp only [stepWeight, weightAfter, if_true]
    split <;> omega

/-- An output after k sample periods (R153, R154). -/
def weighed (s : State) (o : OutId) (k : Nat) : Output :=
  let r := (s.outputs[o]'o.2)
  { r with
    wp := weightAfter (r.sel == .primary) r.wp k, wb := weightAfter (r.sel == .backup) r.wb k
    duck := weightAfter (talkedTo s o) r.duck k }

set_option Elab.async false in
theorem weightAfter_zero (rises : Bool) (w : Nat) : weightAfter rises w 0 = w := by
  cases rises
  · rfl
  · exact Nat.max_eq_left (Nat.min_le_right 480 w)

theorem stepped_eq (s : State) (o : OutId) (k : Nat) : stepped s o k = weighed s o k := by
  induction k with
  | zero => simp only [stepped, weighed, weightAfter_zero]
  | succ k ih =>
    rw [stepped, ih, stepOutput, weighed]
    simp only [stepWeight_weightAfter]
    rfl

theorem mem_work_all (w : Work) : w ∈ Work.all := by
  unfold Work.all
  simp only [List.mem_append, List.mem_flatMap, List.mem_map, List.mem_cons, List.not_mem_nil, or_false, List.mem_finRange,
    true_and]
  cases w with
  | score p x => simp [mem_ports]; cases x <;> simp [pathNames]
  | stretch l => cases l <;> simp
  | _ => simp [mem_ports]

/-- Settles O44. -/
theorem boundaryPlaysEveryOutputFromWhatItsWorkLeaves : Obligations.BoundaryPlaysEveryOutputFromWhatItsWorkLeaves := by
  intro i s hrstn left
  refine ⟨fun w => foldl_takeWork_takes _ _ (.inr (List.mem_append_right _ (mem_work_all w))), fun w u => ?_, _,
    exec_boundary hrstn, fun o => ?_, endBoundary_tracks left, ?_, endBoundary_frame left⟩
  · split
    · next h => exact takeWork_of_taken h
    · next h => exact takeWork_of_fresh h
  · have htalked : talkedTo left o = (left.talkMask.p0 ||| left.talkMask.p1 ||| left.talkMask.p2).getLsbD o.val :=
      talkedTo_eq left o
    have hweighed (k : Nat) := stepped_eq left o k
    simp only [weighed, htalked] at hweighed
    refine (endBoundary_output left o).trans ?_
    simp only [outputFrame, hweighed]
  · rw [endBoundary_phantom]

end Sys2Proof.Safety
end

section
/-! PROOFS. The frames that a boundary sends, and the bank whose conversion it begins (R23, R24, R111). -/

namespace Sys2Proof.Safety
open Sys2Proof.Machine
/-! ## No work of a boundary changes the bank in turn (R111) -/

/-- The bank whose conversion is in progress is the same. -/
def SameScan (s t : State) : Prop := t.phantom.scan = s.phantom.scan

namespace SameScan

theorem of_frame {l : List Block} {s t : State} (h : SameExcept l s t) (hl : .phantom ∉ l := by decide) : SameScan s t :=
  congrArg Phantom.scan (h .phantom hl)

theorem refl (s : State) : SameScan s s := rfl

theorem trans {s t u : State} (h : SameScan s t) (h' : SameScan t u) : SameScan s u := Eq.trans h' h

theorem foldl {α : Type} {f : State → α → State} (h : ∀ s a, SameScan s (f s a)) (xs : List α) (s : State) :
    SameScan s (xs.foldl f s) :=
  foldl_keeps (I := SameScan s) (fun _ a ht => ht.trans (h _ a)) xs s (refl s)

end SameScan

theorem setBank_scan (b k s) : SameScan s (setBank b k s) := rfl

theorem shedBank_scan (b k s) : SameScan s (shedBank b k s) := by
  rw [SameScan, shedBank_phantom]
  rfl

theorem retryBank_scan (a b k s) : SameScan s (retryBank a b k s) := by
  rw [SameScan, retryBank_phantom]
  rfl

theorem readingWork_scan (s) : SameScan s (readingWork s) := by
  have htripped (k : Bank) : SameScan s (holdTimer s.phantom.scan (shedBank s.phantom.scan k s)) :=
    (shedBank_scan _ k s).trans (.of_frame (holdTimer_frame _ _))
  unfold readingWork takeReading
  dsimp only
  repeat' split
  · exact htripped _
  · exact htripped _
  · exact htripped _
  · exact setBank_scan _ _ s
  · exact setBank_scan _ _ s
  · exact setBank_scan _ _ s

set_option Elab.async false in
theorem advanceBank_scan (b s) : SameScan s (advanceBank b s) := by
  have hholdoff : SameScan s (endHoldoff b s) := by
    unfold endHoldoff
    dsimp only
    split
    · exact retryBank_scan _ _ _ s
    · exact setBank_scan _ _ s
  have hwatch : SameScan s (endWatch b s) :=
    (setBank_scan b _ s).trans ((SameScan.of_frame (appendEntry_frame _ _ _ _ _)).trans (.of_frame (settle_frame _)))
  unfold advanceBank
  dsimp only
  repeat' split
  · exact hholdoff
  · exact setBank_scan _ _ s
  · exact hwatch
  · exact setBank_scan _ _ s
  · exact .refl s
  · exact .refl s

theorem bankWork_scan (b s) : SameScan s (bankWork b s) := by
  obtain ⟨t, ht, hread⟩ : ∃ t, bankWork b s = (if fresh (.bank b) t then advanceBank b t else t) ∧ SameScan s t := by
    refine ⟨_, rfl, ?_⟩
    split
    · exact (readingWork_scan s).trans (.of_frame (markTaken_frame _ _))
    · exact .refl s
  rw [ht]
  split
  · exact hread.trans (advanceBank_scan b t)
  · exact hread

theorem handlerOf_scan (before k p m s) : SameScan s (handlerOf before k p m s).state := by
  have hkind (h : .phantom ∉ handlerBlocks k) : SameScan s (handlerOf before k p m s).state :=
    .of_frame (handlerOf_frame_of_kind before k p m s) h
  cases k
  case phantomReset =>
    refine judged_state (P := SameScan s) rfl ?_
    dsimp only
    unfold resetBank
    dsimp only
    split
    · exact retryBank_scan _ _ _ s
    · exact retryBank_scan _ _ _ s
    · exact .refl s
    · exact .refl s
  all_goals exact hkind (by decide)

theorem completeMessage_scan (p kind m s) : SameScan s (completeMessage p kind m s) := by
  have hheard : SameScan s (heard p s) := .of_frame (heard_frame p s)
  have hdeliver (handler : Port → Msg → State → Answer)
      (h : ∀ u, SameScan u (handler p m u).state) : SameScan s (deliver p kind m handler s) := by
    unfold deliver
    dsimp only
    split
    · exact hheard.trans (.of_frame (raiseAt_frame _ _ _))
    · exact hheard.trans ((h _).trans (.of_frame (enqueue_frame _ _ _ _)))
  unfold completeMessage
  split
  · exact hheard
  · exact hdeliver _ (handlerOf_scan s _ p m)
  · exact hdeliver _ (fun u => .refl u)

theorem takeWord_scan (p w s) : SameScan s (takeWord p w s) := by
  have hasm (a : Option Assembly) (u : State) : SameScan u (setAssembly p a u) := .of_frame (setAssembly_frame _ _ _)
  have hfinish (a : Assembly) (u : State) : SameScan u (finishMessage p a u) := by
    unfold finishMessage
    dsimp only
    split
    · exact (hasm none u).trans (completeMessage_scan _ _ _ _)
    · exact hasm none u
  have hdropped : SameScan s (dropPartial p s) := .of_frame (dropPartial_frame p s)
  have hhead : SameScan s (takeHead p w s) := by
    unfold takeHead
    dsimp only
    split
    · exact (hdropped.trans (hasm _ _)).trans (hfinish _ _)
    · exact hdropped.trans (hasm _ _)
  have hbody : SameScan s (takeBody p w s) := by
    cases h : (s.lanes.get p).asm with
    | none =>
      rw [takeBody_stray h]
      exact .of_frame (raiseAt_frame _ _ _)
    | some a =>
      rw [takeBody_advances h]
      split
      · exact hfinish _ s
      · exact hasm _ s
  unfold takeWord
  split
  · exact .refl s
  · exact hhead
  · exact hbody
  · exact hdropped

theorem playout_scan (p s) : SameScan s (playout p s) := by
  have hmissed : SameScan s (missFrame p s) := .of_frame (missFrame_frame p s)
  have hdelivered (c : Copy) : SameScan s (deliverFrame p c s) := by
    obtain ⟨-, -, -, hframe, -⟩ := playedOn_eff p c s
    rw [deliverFrame_eq]
    split
    · refine (SameScan.of_frame hframe).trans (.foldl (fun u w => ?_) _ _)
      split
      · exact takeWord_scan p w u
      · exact .refl u
    · exact (SameScan.of_frame hframe).trans (.of_frame (dropPartial_frame _ _))
  unfold playout playFrame
  dsimp only
  repeat' split
  · exact .of_frame (setHandoff_frame _ _ _)
  · exact .refl s
  · exact hmissed
  · exact hdelivered _
  · exact hmissed

theorem takeWork_scan (s w) : SameScan s (takeWork s w) := by
  have heffect : SameScan s (workEffect w s) := by
    cases w
    case score p x => exact .of_frame (scorePath_frame p x s)
    case playout p => exact playout_scan p s
    case presence p => exact .of_frame (countPresence_frame p s)
    case capture c => exact .of_frame (captureFrame_frame c s)
    case mute c => exact .of_frame (countMute_frame c s)
    case reading => exact readingWork_scan s
    case bank b => exact bankWork_scan b s
    case holdoff o => exact .of_frame (countHoldoff_frame o s)
    case key k => exact .of_frame (keyWork_frame k s)
    case build => exact .of_frame (buildFrames_frame s)
    case stretch l => exact .of_frame (countStretch_frame l s)
  unfold takeWork
  split
  · exact heffect.trans (.of_frame (markTaken_frame _ _))
  · exact .refl s

/-! ## The three frames (R23, R24) -/

section
variable {s t : State} {p : Port} (h : SameExcept [.meters, .lanes, .sent] s t)
include h

theorem statusWord0_of_same : statusWord0 t p = statusWord0 s p := by
  have hpresence : t.presence = s.presence := h .presence (by decide)
  have hpaths : t.paths = s.paths := h .paths (by decide)
  have hclock : t.clock = s.clock := h .clock (by decide)
  have hfaults : t.faults = s.faults := h .faults (by decide)
  have haddr : t.unitAddr = s.unitAddr := h .unitAddr (by decide)
  have hjournal : t.journal = s.journal := h .journal (by decide)
  have hcalls : t.calls = s.calls := h .calls (by decide)
  simp only [statusWord0, genLow, portState, pathRec, hpresence, hpaths, hclock, hfaults, haddr, hjournal, hcalls]

theorem stageTalkActive_of_same : stageTalkActive t p = stageTalkActive s p := by
  have hsettings : t.settings = s.settings := h .settings (by decide)
  have hkeys : t.keys = s.keys := h .keys (by decide)
  simp only [stageTalkActive, talking, keyConfig, hsettings, hkeys]
  rfl

theorem statusWord1_of_same (hlane : t.lanes.get p = s.lanes.get p) : statusWord1 t p = statusWord1 s p := by
  have hfaults : t.faults = s.faults := h .faults (by decide)
  have htracks : t.tracks = s.tracks := h .tracks (by decide)
  have hphantom : t.phantom = s.phantom := h .phantom (by decide)
  simp only [statusWord1, trackLimitHolds, hlane, hfaults, htracks, hphantom, stageTalkActive_of_same h]

/-- A port's frame looks at no other port's lane, at no meter and at no frame sent. -/
theorem upFrame_of_same (hlane : t.lanes.get p = s.lanes.get p) : upFrame t p = upFrame s p := by
  have hafter : SameExcept [.meters, .lanes, .sent] (takeReplies p s) (takeReplies p t) := fun b hb => by
    cases b <;> first | exact absurd (by decide) hb | exact h _ hb
  have hchannels : t.channels = s.channels := h .channels (by decide)
  have hlatch : t.latch = s.latch := h .latch (by decide)
  have hframeNo : t.frameNo = s.frameNo := h .frameNo (by decide)
  have haddr : t.unitAddr = s.unitAddr := h .unitAddr (by decide)
  have htracks : t.tracks = s.tracks := h .tracks (by decide)
  have hsettings : t.settings = s.settings := h .settings (by decide)
  have hhanded (c : Chan) : handedOn t c = handedOn s c := by simp only [handedOn, hchannels, hlatch]
  have hlanes : (takeReplies p t).lanes.get p = (takeReplies p s).lanes.get p := by
    rw [show (takeReplies p t).lanes.get p = laneAfter t.unitAddr (t.lanes.get p) 4 from PerPort.get_set_self _ _ _,
      show (takeReplies p s).lanes.get p = laneAfter s.unitAddr (s.lanes.get p) 4 from PerPort.get_set_self _ _ _, hlane,
      haddr]
  have hunchecked : uncheckedFrame t p = uncheckedFrame s p := by
    simp only [uncheckedFrame, upHeader, statusWord0_of_same hafter, statusWord1_of_same hafter hlanes, micFrame, stageTalk,
      hhanded, stageTalkActive_of_same h, hlane, hframeNo, haddr, htracks, hsettings]
  rw [upFrame, upFrame, hunchecked]

end

theorem buildFrame_lanes_other (s : State) {p q : Port} (h : q ≠ p) : (buildFrame s p).lanes.get q = s.lanes.get q := by
  rw [buildFrame_lanes, PerPort.get_set_ne _ _ h]

set_option Elab.async false in
/-- Building one port's frame leaves another's as it is. -/
theorem upFrame_buildFrame (s : State) {p q : Port} (h : q ≠ p) : upFrame (buildFrame s p) q = upFrame s q :=
  upFrame_of_same (buildFrame_frame s p) (buildFrame_lanes_other s h)

theorem buildFrames_sent (s : State) (p : Port) :
    (buildFrames s).sent.get p = { frame := some (upFrame s p), on := s.settings.pathEnable.get p } := by
  have hsent := foldl_read (f := buildFrame) (fun s p => s.sent.get p)
    (fun s p => { frame := some (upFrame s p), on := s.settings.pathEnable.get p })
    (fun s p => by rw [buildFrame_sent, PerPort.get_set_self])
        (fun s p q h => by rw [buildFrame_sent, PerPort.get_set_ne _ _ h])
    (fun s p q h => by rw [upFrame_buildFrame s h, buildFrame_frame s p .settings (by decide)]) ports_nodup s p
  rw [if_pos (mem_ports p)] at hsent
  rw [← hsent]
  exact congrArg (PerPort.get · p) (withFrameNo_frame _ _ .sent (by decide))

theorem buildFrames_frameNo (s : State) : (buildFrames s).frameNo = s.frameNo + 1 := by
  have hkept : (ports.foldl buildFrame s).frameNo = s.frameNo := SameExcept.foldl buildFrame_frame _ _ .frameNo (by decide)
  rw [← hkept]
  rfl

/-! ## The frames in the order of the work -/

/-- A list up to a unit that it names, the unit, and the rest. -/
theorem split_at_first {w : Work} {ws : List Work} (h : w ∈ ws) :
    ∃ rest, ws = ws.takeWhile (fun v => v != w) ++ w :: rest ∧ w ∉ ws.takeWhile (fun v => v != w)
      ∧ ws.dropWhile (fun v => v != w) = w :: rest := by
  induction ws with
  | nil => exact absurd h List.not_mem_nil
  | cons v ws ih =>
    by_cases hv : v = w
    · subst hv
      have hstop : (v != v) = false := bne_self_eq_false v
      rw [List.takeWhile_cons, List.dropWhile_cons, hstop]
      exact ⟨ws, rfl, List.not_mem_nil, rfl⟩
    · have hgo : (v != w) = true := bne_iff_ne.mpr hv
      obtain ⟨rest, hws, hnot, hdrop⟩ := ih ((List.mem_cons.mp h).resolve_left fun hw => hv hw.symm)
      simp only [List.takeWhile_cons, List.dropWhile_cons, hgo]
      exact ⟨rest, congrArg (v :: ·) hws, fun hin => (List.mem_cons.mp hin).elim (fun hw => hv hw.symm) hnot, hdrop⟩

theorem work_all_after_build : Work.all.dropWhile (fun w => w != .build) = [.build, .stretch .line0, .stretch .line1] := by
  decide

/-- Where the frames have not been built yet, the boundary builds them from what the work before them leaves, and the
work after them leaves them as they are. -/
theorem afterWork_builds (i : BoundaryInput) {s built : State} (h : .build ∉ s.latch.taken)
    (hb : built = afterWork i ((workOf i).takeWhile fun w => w != .build) s) :
    ∃ rest, (workOf i).dropWhile (fun w => w != .build) = .build :: rest
      ∧ afterWork i (workOf i) s = rest.foldl takeWork (markTaken .build (buildFrames built))
      ∧ SameExcept playoutBlocks (markTaken .build (buildFrames built)) (afterWork i (workOf i) s) := by
  obtain ⟨rest, hws, hnot, hdrop⟩ := split_at_first (List.mem_append_right i.order (mem_work_all .build))
  have hbuilt : Work.build ∉ built.latch.taken := by
    rw [hb, afterWork, workOf, (foldl_takeWork_keeps_frames _ _ (.inl hnot)).2, latchInputs_taken]
    exact h
  have hleft : afterWork i (workOf i) s = rest.foldl takeWork (markTaken .build (buildFrames built)) := by
    have htaken : takeWork built .build = markTaken .build (buildFrames built) := takeWork_of_fresh hbuilt
    rw [← htaken, ← List.foldl_cons]
    have hfold : (workOf i).foldl takeWork (latchInputs i (openBoundary s))
        = (Work.build :: rest).foldl takeWork built := by
      rw [show workOf i = _ from hws, List.foldl_append, hb]
      rfl
    exact hfold
  refine ⟨rest, hdrop, hleft, hleft ▸ ?_⟩
  exact (foldl_takeWork_keeps_frames rest _ (.inr (.head _))).1

theorem afterWork_scan (i : BoundaryInput) (ws : List Work) (s : State) : SameScan s (afterWork i ws s) :=
  (SameScan.of_frame (afterWork_start i s)).trans (SameScan.foldl takeWork_scan _ _)

/-- Until the frames are built the unit's frame number and address stand. -/
theorem afterWork_before_build (i : BoundaryInput) {ws : List Work} {s : State} (h : .build ∉ ws ∨ .build ∈ s.latch.taken) :
    SameExcept playoutBlocks s (afterWork i ws s) :=
  ((afterWork_start i s).mono (by decide)).trans
    (foldl_takeWork_keeps_frames ws _ (h.imp_right fun hin => (latchInputs_taken i s).symm ▸ hin)).1

/-- The lines' stretch timers stand behind the frames in the model's own order of the work, and change no setting. -/
theorem stretches_keep_settings (u : State) :
    ([Work.stretch .line0, .stretch .line1].foldl takeWork u).settings = u.settings := by
  have hone (v : State) (l : Line) : (takeWork v (.stretch l)).settings = v.settings := by
    by_cases h : Work.stretch l ∈ v.latch.taken
    · rw [takeWork_of_taken h]
    · rw [takeWork_of_fresh h]
      exact (markTaken_frame _ _ .settings (by decide)).trans (countStretch_frame l v .settings (by decide))
  simp only [List.foldl_cons, List.foldl_nil, hone]

/-- Settles O15. -/
theorem boundarySendsOneFramePerPortAndMovesOn : Obligations.BoundarySendsOneFramePerPortAndMovesOn := by
  intro i s hrstn built
  have hwhole : SameExcept workBlocks s (boundary i s) := boundary_frame i s
  have hscan : (afterWork i (workOf i) s).phantom.scan = s.phantom.scan := afterWork_scan i (workOf i) s
  have hbuilds (h : .build ∉ s.latch.taken) := afterWork_builds (built := built) i h rfl
  have hbuilt : s.frameNo = built.frameNo ∧ s.unitAddr = built.unitAddr := by
    have hsplit := split_at_first (List.mem_append_right i.order (mem_work_all .build))
    obtain ⟨rest, hws, hnot, hdrop⟩ := hsplit
    have hbefore : SameExcept playoutBlocks s built := afterWork_before_build i (.inl hnot)
    exact ⟨(hbefore .frameNo (by decide)).symm, (hbefore .unitAddr (by decide)).symm⟩
  have htaken (h : .build ∈ s.latch.taken) : SameExcept playoutBlocks s (afterWork i (workOf i) s) :=
    afterWork_before_build i (.inr h)
  rw [show boundary i s = endBoundary (afterWork i (workOf i) s) from rfl] at hwhole
  refine ⟨_, exec_boundary hrstn, ?_⟩
  generalize afterWork i (workOf i) s = left at hwhole hscan hbuilds htaken ⊢
  clear_value built
  have hend : SameExcept _ left (endBoundary left) := endBoundary_frame left
  refine ⟨fun h => ?_, fun h => ?_, fun p c => ?_, ?_, ?_, fun p => ?_, fun p => ?_, hwhole .rstn (by decide),
    hwhole .unitAddr (by decide), hwhole .signal (by decide), hwhole .pending (by decide)⟩
  · obtain ⟨rest, hdrop, hrest, hkept⟩ := hbuilds h
    obtain ⟨hnumber, haddr⟩ := hbuilt
    have hmarked : SameExcept [.latch] (buildFrames built) (markTaken .build (buildFrames built)) := markTaken_frame _ _
    have hframes (p : Port) : (endBoundary left).sent.get p =
        { frame := some (upFrame built p), on := built.settings.pathEnable.get p } := by
      rw [hend .sent (by decide), hkept .sent (by decide), hmarked .sent (by decide), buildFrames_sent]
    refine ⟨?_, hframes, fun p => ?_, fun horder p => ?_⟩
    · rw [hend .frameNo (by decide), hkept .frameNo (by decide), hmarked .frameNo (by decide), buildFrames_frameNo, hnumber]
    · rw [hnumber, haddr]
      exact upHeader_eq built
    · rw [workOf, horder, List.nil_append, work_all_after_build] at hdrop
      obtain rfl : _ = rest := List.tail_eq_of_cons_eq hdrop
      rw [hframes, hend .settings (by decide), hrest, stretches_keep_settings, hmarked .settings (by decide),
        buildFrames_frame built .settings (by decide)]
  · have hkept := htaken h
    exact ⟨(hend .frameNo (by decide)).trans (hkept .frameNo (by decide)),
      (hend .sent (by decide)).trans (hkept .sent (by decide))⟩
  · rw [endBoundary_tracks]
  · rw [endBoundary_phantom, ← hscan]
    exact Fin.val_add left.phantom.scan 1
  · rw [endBoundary_latch]
  · rw [endBoundary_latch]
    exact PerPort.get_of _ p
  · rw [endBoundary_latch]
    exact PerPort.get_of _ p

end Sys2Proof.Safety
end

section
/-! PROOFS. What a port is left when paths of its own are disabled, whatever their order (R8, R12, R25, R26). -/

namespace Sys2Proof.Safety
open Sys2Proof.Machine
/-! ## One path that no longer carries -/

/-- What becomes of the state when one receiver is replaced by one that does not carry: nothing more where it carried
nothing or is spare, a move of the reference, or the port's going OFFLINE. -/
inductive PathStep (s : State) : State → Prop
  | stay : PathStep s s
  | idle {p x r} (hr : carries r = false) (hx : ¬ Carrying p x s) : PathStep s (setPath p x r s)
  | spare {p x r} (hr : carries r = false) (hx : Carrying p x s) (hother : Carrying p (otherPath x) s)
      (href : (s.clock.monitors.get p).ref ≠ some x) : PathStep s (setPath p x r s)
  | moved {p x r} (hr : carries r = false) (hx : Carrying p x s) (hother : Carrying p (otherPath x) s)
      (href : (s.clock.monitors.get p).ref = some x) : PathStep s (moveReference p (otherPath x) (setPath p x r s))
  | last {p x r} (hr : carries r = false) (hx : Carrying p x s) (hother : ¬ Carrying p (otherPath x) s) :
      PathStep s (goOffline s p (setPath p x r s))

/-- A write of one flag of PATH_ENABLE is such a step. -/
theorem writePathFlag_step (before after : Bool) (p : Port) (x : PathName) (s : State) :
    PathStep s (writePathFlag before after p x s) := by
  cases before <;> cases after
  case true.false =>
    have hr : carries (clearedPath .disabled (pathRec s p x)) = false := rfl
    by_cases hx : Carrying p x s
    · have hleave : writePathFlag true false p x s = leaveCarrying p x (clearedPath .disabled (pathRec s p x)) s :=
        if_pos (carries_iff.mpr hx)
      rw [hleave]
      by_cases hother : Carrying p (otherPath x) s
      · by_cases href : (s.clock.monitors.get p).ref = some x
        · rw [leaveCarrying_reference hr hother href]
          exact .moved hr hx hother href
        · rw [leaveCarrying_spare hr hother href]
          exact .spare hr hx hother href
      · rw [leaveCarrying_last hr hother]
        exact .last hr hx hother
    · have hset : writePathFlag true false p x s = setPath p x (clearedPath .disabled (pathRec s p x)) s :=
        if_neg fun h => hx (carries_iff.mp h)
      rw [hset]
      exact .idle hr hx
  case false.true =>
    by_cases hdisabled : (pathRec s p x).state = .disabled
    · have hset : writePathFlag false true p x s = setPath p x .dark s := if_pos (beq_iff_eq.mpr hdisabled)
      rw [hset]
      refine .idle rfl fun hx => ?_
      rw [Carrying, show ((s.paths.get p).get x).state = .disabled from hdisabled] at hx
      exact hx.elim nofun nofun
    · have hset : writePathFlag false true p x s = s := if_neg fun h => hdisabled (beq_iff_eq.mp h)
      rw [hset]
      exact .stay
  all_goals exact .stay

theorem online_iff_carrying (x : PathName) {q : Port} {s : State} :
    online s q = true ↔ Carrying q x s ∨ Carrying q (otherPath x) s := by
  rw [online_eq s q x, Bool.or_eq_true, carries_iff, carries_iff]

set_option Elab.async false in
theorem online_of_carrying {q : Port} {x : PathName} {s : State} (h : Carrying q x s) : online s q = true :=
  (online_iff_carrying x).mpr (.inl h)

theorem online_congr {q : Port} {s t : State} (h : ∀ y, Carrying q y t ↔ Carrying q y s) : online t q = online s q := by
  rw [Bool.eq_iff_iff, online_iff_carrying .a, online_iff_carrying .a, h, h]

/-- Which paths carry, once one receiver no longer does. -/
theorem carrying_replaced {p : Port} {x : PathName} {r : PathRec} {s t : State} (hr : carries r = false)
    (ht : t.paths = (setPath p x r s).paths) (q : Port) (y : PathName) :
    Carrying q y t ↔ ¬ (q = p ∧ y = x) ∧ Carrying q y s := by
  rw [← carries_iff, ← carries_iff, pathRec_of_paths ht, pathRec_setPath]
  by_cases h : q = p ∧ y = x
  · rw [if_pos h, hr]
    exact ⟨nofun, fun hc => absurd h hc.1⟩
  · rw [if_neg h, and_iff_right h]

theorem moveReference_paths (p : Port) (y : PathName) (s : State) : (moveReference p y s).paths = s.paths :=
  moveReference_frame p y s .paths (by decide)

theorem goOffline_paths (old : State) (p : Port) (s : State) : (goOffline old p s).paths = s.paths :=
  goOffline_frame old p s .paths (by decide)

/-! ## A port's own blocks -/

/-- The clock monitor of a port that has gone OFFLINE (R12, R30). -/
def offlineMonitor (k : Monitor) : Monitor := { k with state := .unusable, run := 0, ref := none, interval := .none }

/-- The clock monitor of a port whose reference has moved to a path that has or has not signal (R25). -/
def movedMonitor (y : PathName) (signal : Bool) (k : Monitor) : Monitor :=
  { k with ref := some y, interval := if signal then .awaiting else .none }

theorem offlineMonitor_moved (y : PathName) (signal : Bool) (k : Monitor) :
    offlineMonitor (movedMonitor y signal k) = offlineMonitor k := rfl

/-- A port's own blocks are the same, and it is carried by the same paths. -/
structure SamePort (q : Port) (s t : State) : Prop where
  carrying : ∀ y, Carrying q y t ↔ Carrying q y s
  merge : t.merges.get q = s.merges.get q
  lane : t.lanes.get q = s.lanes.get q
  talk : t.talkMask.get q = s.talkMask.get q
  monitor : t.clock.monitors.get q = s.clock.monitors.get q
  signal : t.signal = s.signal

/-- A port's own blocks as the loss of its paths on the way from one state to another leaves them. -/
structure PortLeft (q : Port) (s t : State) : Prop where
  fewer : ∀ y, Carrying q y t → Carrying q y s
  signal : t.signal = s.signal
  gone : online s q = true → online t q = false →
    t.merges.get q = offlineForm (s.merges.get q) ∧ t.lanes.get q = { asm := none, queue := [], sent := 0 }
      ∧ t.talkMask.get q = 0 ∧ t.clock.monitors.get q = offlineMonitor (s.clock.monitors.get q)
  kept : online t q = online s q →
    t.merges.get q = s.merges.get q ∧ t.lanes.get q = s.lanes.get q ∧ t.talkMask.get q = s.talkMask.get q
      ∧ (t.clock.monitors.get q).state = (s.clock.monitors.get q).state
  moved : online s q = true → online t q = true → ∀ x, (s.clock.monitors.get q).ref = some x → Carrying q x s →
    ¬ Carrying q x t →
      t.clock.monitors.get q = movedMonitor (otherPath x) ((s.signal.get q).get (otherPath x)) (s.clock.monitors.get q)
  stayed : online s q = true → online t q = true →
    (∀ x, (s.clock.monitors.get q).ref = some x → Carrying q x s → Carrying q x t) →
      t.clock.monitors.get q = s.clock.monitors.get q

namespace PortLeft

theorem refl (q : Port) (s : State) : PortLeft q s s where
  fewer _ h := h
  signal := rfl
  gone h h' := absurd (h.symm.trans h') (by decide)
  kept _ := ⟨rfl, rfl, rfl, rfl⟩
  moved _ _ _ _ h h' := absurd h h'
  stayed _ _ _ := rfl

variable {q : Port} {s t u : State}

theorem same (h : PortLeft q s t) (hu : SamePort q t u) : PortLeft q s u where
  fewer y hy := h.fewer y ((hu.carrying y).mp hy)
  signal := hu.signal.trans h.signal
  gone := by
    rw [online_congr hu.carrying, hu.merge, hu.lane, hu.talk, hu.monitor]
    exact h.gone
  kept := by
    rw [online_congr hu.carrying, hu.merge, hu.lane, hu.talk, hu.monitor]
    exact h.kept
  moved := by
    rw [online_congr hu.carrying, hu.monitor]
    exact fun hs ht x href hx hxu => h.moved hs ht x href hx fun hxt => hxu ((hu.carrying x).mpr hxt)
  stayed := by
    rw [online_congr hu.carrying, hu.monitor]
    exact fun hs ht hall => h.stayed hs ht fun x href hx => (hu.carrying x).mp (hall x href hx)

theorem was_online (h : PortLeft q s t) (ht : online t q = true) : online s q = true := by
  rcases (online_iff_carrying .a).mp ht with hc | hc
  · exact online_of_carrying (h.fewer _ hc)
  · exact online_of_carrying (h.fewer _ hc)

/-- While both its paths carry a port, its monitor is as it was. -/
theorem monitor_of_both {x : PathName} (h : PortLeft q s t) (hx : Carrying q x t) (hother : Carrying q (otherPath x) t) :
    t.clock.monitors.get q = s.clock.monitors.get q := by
  refine h.stayed (h.was_online (online_of_carrying hx)) (online_of_carrying hx) fun y _ _ => ?_
  rcases eq_or_eq_otherPath x y with rfl | rfl
  · exact hx
  · exact hother

/-- A port that is still ONLINE loses nothing of its monitor that going OFFLINE would keep. -/
theorem offlineMonitor_eq (h : PortLeft q s t) (ht : online t q = true) :
    offlineMonitor (t.clock.monitors.get q) = offlineMonitor (s.clock.monitors.get q) := by
  have hs := h.was_online ht
  by_cases hall : ∀ x, (s.clock.monitors.get q).ref = some x → Carrying q x s → Carrying q x t
  · rw [h.stayed hs ht hall]
  · simp only [not_forall] at hall
    obtain ⟨x, href, hx, hxt⟩ := hall
    rw [h.moved hs ht x href hx hxt, offlineMonitor_moved]

end PortLeft

/-! ## A step, and the port whose path it is -/

section
variable {p : Port} {x : PathName} {r : PathRec} {s t : State} (hr : carries r = false)
include hr

theorem samePort_setPath_idle (hx : ¬ Carrying p x t) (q : Port) : SamePort q t (setPath p x r t) := by
  have hset := setPath_frame p x r t
  refine ⟨fun y => ?_, by rw [hset .merges (by decide)], by rw [hset .lanes (by decide)], by rw [hset .talkMask (by decide)],
    by rw [hset .clock (by decide)], hset .signal (by decide)⟩
  rw [carrying_replaced hr rfl, and_iff_right_iff_imp]
  rintro hy ⟨rfl, rfl⟩
  exact hx hy

set_option Elab.async false in
theorem samePort_setPath_other {q : Port} (hq : q ≠ p) : SamePort q t (setPath p x r t) := by
  have hset := setPath_frame p x r t
  refine ⟨fun y => ?_, by rw [hset .merges (by decide)], by rw [hset .lanes (by decide)], by rw [hset .talkMask (by decide)],
    by rw [hset .clock (by decide)], hset .signal (by decide)⟩
  rw [carrying_replaced hr rfl, and_iff_right fun h => hq h.1]

theorem samePort_moveReference_other {q : Port} (hq : q ≠ p) :
    SamePort q t (moveReference p (otherPath x) (setPath p x r t)) := by
  have hset : SamePort q t (setPath p x r t) := samePort_setPath_other hr hq
  have hmove := moveReference_frame p (otherPath x) (setPath p x r t)
  refine ⟨fun y => ?_, by rw [hmove .merges (by decide), hset.merge], by rw [hmove .lanes (by decide), hset.lane],
    by rw [hmove .talkMask (by decide), hset.talk], ?_, (hmove .signal (by decide)).trans hset.signal⟩
  · rw [carrying_replaced hr (moveReference_paths _ _ _), and_iff_right fun h => hq h.1]
  · rw [moveReference_clock, PerPort.get_set_ne _ _ hq, hset.monitor]

theorem samePort_goOffline_other {q : Port} (hq : q ≠ p) : SamePort q t (goOffline t p (setPath p x r t)) := by
  have hset : SamePort q t (setPath p x r t) := samePort_setPath_other hr hq
  obtain ⟨hmerges, hlanes, htalk, hmonitors, -⟩ := goOffline_eff t p (setPath p x r t)
  refine ⟨fun y => ?_, ?_, ?_, ?_, ?_, (goOffline_frame _ _ _ .signal (by decide)).trans hset.signal⟩
  · rw [carrying_replaced hr (goOffline_paths _ _ _), and_iff_right fun h => hq h.1]
  · rw [hmerges, PerPort.get_set_ne _ _ hq, hset.merge]
  · rw [hlanes, PerPort.get_set_ne _ _ hq, hset.lane]
  · rw [htalk, PerPort.get_set_ne _ _ hq, hset.talk]
  · rw [hmonitors, PerPort.get_set_ne _ _ hq, hset.monitor]

variable (h : PortLeft p s t) (hx : Carrying p x t)
include h hx

theorem portLeft_spare (hother : Carrying p (otherPath x) t) (href : (t.clock.monitors.get p).ref ≠ some x) :
    PortLeft p s (setPath p x r t) := by
  have hset := setPath_frame p x r t
  have hcarry := carrying_replaced (x := x) hr (rfl : (setPath p x r t).paths = _) p
  have hstill : online (setPath p x r t) p = true :=
    online_of_carrying ((hcarry _).mpr ⟨fun hp => otherPath_ne x hp.2, hother⟩)
  have hmonitor : (setPath p x r t).clock.monitors.get p = s.clock.monitors.get p := by
    rw [hset .clock (by decide)]
    exact h.monitor_of_both hx hother
  have hkeep := h.kept ((online_of_carrying hx).trans (h.was_online (online_of_carrying hx)).symm)
  refine ⟨fun y hy => h.fewer y ((hcarry y).mp hy).2, (hset .signal (by decide)).trans h.signal,
    fun _ hgone => absurd (hstill.symm.trans hgone) (by decide), fun _ => ?_, fun _ _ y hrefy hy hyu => ?_,
    fun _ _ _ => hmonitor⟩
  · rw [hset .merges (by decide), hset .lanes (by decide), hset .talkMask (by decide), hset .clock (by decide)]
    exact hkeep
  · refine absurd ((hcarry y).mpr ⟨?_, ?_⟩) hyu
    · rintro ⟨-, rfl⟩
      rw [h.monitor_of_both hx hother] at href
      exact href hrefy
    · rcases eq_or_eq_otherPath x y with rfl | rfl
      · exact hx
      · exact hother

theorem portLeft_moved (hother : Carrying p (otherPath x) t) (href : (t.clock.monitors.get p).ref = some x) :
    PortLeft p s (moveReference p (otherPath x) (setPath p x r t)) := by
  have hset : SameExcept [.paths, .clock] t (moveReference p (otherPath x) (setPath p x r t)) :=
    (setPath_frame p x r t).seq (moveReference_frame _ _ _)
  have hcarry := carrying_replaced (x := x) hr (moveReference_paths p (otherPath x) (setPath p x r t)) p
  have hboth := h.monitor_of_both hx hother
  have hmonitor : (moveReference p (otherPath x) (setPath p x r t)).clock.monitors.get p
      = movedMonitor (otherPath x) ((s.signal.get p).get (otherPath x)) (s.clock.monitors.get p) := by
    rw [moveReference_clock, PerPort.get_set_self, setPath_frame p x r t .clock (by decide),
      setPath_frame p x r t .signal (by decide), hboth, h.signal]
    rfl
  generalize moveReference p (otherPath x) (setPath p x r t) = u at hset hcarry hmonitor ⊢
  have hstill : online u p = true :=
    online_of_carrying ((hcarry _).mpr ⟨fun hp => otherPath_ne x hp.2, hother⟩)
  have hkeep := h.kept ((online_of_carrying hx).trans (h.was_online (online_of_carrying hx)).symm)
  rw [hboth] at href
  refine ⟨fun y hy => h.fewer y ((hcarry y).mp hy).2, (hset .signal (by decide)).trans h.signal,
    fun _ hgone => absurd (hstill.symm.trans hgone) (by decide), fun _ => ?_, fun _ _ y hrefy _ _ => ?_,
    fun _ _ hall => ?_⟩
  · rw [hset .merges (by decide), hset .lanes (by decide), hset .talkMask (by decide), hmonitor]
    exact ⟨hkeep.1, hkeep.2.1, hkeep.2.2.1, rfl⟩
  · obtain rfl := Option.some.inj (href.symm.trans hrefy)
    exact hmonitor
  · exact absurd ⟨rfl, rfl⟩ ((hcarry x).mp (hall x href (h.fewer x hx))).1

theorem portLeft_last (hother : ¬ Carrying p (otherPath x) t) : PortLeft p s (goOffline t p (setPath p x r t)) := by
  have hset := setPath_frame p x r t
  have hcarry := carrying_replaced (x := x) hr (goOffline_paths t p (setPath p x r t)) p
  have hsignal : (goOffline t p (setPath p x r t)).signal = t.signal :=
    (goOffline_frame _ _ _ .signal (by decide)).trans (hset .signal (by decide))
  obtain ⟨hmerges, hlanes, htalk, hmonitors, -⟩ := goOffline_eff t p (setPath p x r t)
  rw [hset .merges (by decide)] at hmerges
  rw [hset .clock (by decide)] at hmonitors
  generalize goOffline t p (setPath p x r t) = u at hcarry hsignal hmerges hlanes htalk hmonitors ⊢
  have hoff : online u p = false := by
    rw [Bool.eq_false_iff, ne_eq, online_iff_carrying x, hcarry, hcarry]
    rintro (⟨hne, -⟩ | ⟨-, hc⟩)
    · exact hne ⟨rfl, rfl⟩
    · exact hother hc
  have hon := online_of_carrying hx
  have hwas := h.was_online hon
  obtain ⟨hmerge, -⟩ := h.kept (hon.trans hwas.symm)
  refine ⟨fun y hy => h.fewer y ((hcarry y).mp hy).2, hsignal.trans h.signal, fun _ _ => ?_,
    fun hsame => absurd ((hoff.symm.trans hsame).trans hwas) (by decide),
        fun _ hu => absurd (hoff.symm.trans hu) (by decide),
    fun _ hu => absurd (hoff.symm.trans hu) (by decide)⟩
  rw [hmerges, hlanes, htalk, hmonitors, PerPort.get_set_self, PerPort.get_set_self, PerPort.get_set_self,
    PerPort.get_set_self, hmerge]
  exact ⟨rfl, rfl, rfl, h.offlineMonitor_eq hon⟩

end

/-- A step leaves a port's blocks as the loss of its paths until then does. -/
theorem PathStep.portLeft {q : Port} {s t u : State} (hstep : PathStep t u) (h : PortLeft q s t) : PortLeft q s u := by
  cases hstep with
  | stay => exact h
  | idle hr hx => exact h.same (samePort_setPath_idle hr hx q)
  | @spare p x r hr hx hother href =>
    by_cases hq : q = p
    · subst hq
      exact portLeft_spare hr h hx hother href
    · exact h.same (samePort_setPath_other hr hq)
  | @moved p x r hr hx hother href =>
    by_cases hq : q = p
    · subst hq
      exact portLeft_moved hr h hx hother href
    · exact h.same (samePort_moveReference_other hr hq)
  | @last p x r hr hx hother =>
    by_cases hq : q = p
    · subst hq
      exact portLeft_last hr h hx hother
    · exact h.same (samePort_goOffline_other hr hq)

end Sys2Proof.Safety
end

section
/-! PROOFS. The outputs and the clock's source as ports lose their paths one after another (R12, R26, R32, R142). -/

namespace Sys2Proof.Safety
open Sys2Proof.Machine
/-! ## An output whose sources are lost one after another -/

theorem losePrimary_unfailed {b : Bool} {o : Output} (hsel : o.sel = .silent) (hfailed : o.failed = false) :
    losePrimary b o = o := by
  unfold losePrimary
  simp only [hsel, hfailed, Bool.false_eq_true, if_false]

theorem loseBackup_losePrimary (o : Output) : loseBackup (losePrimary true o) = loseBackup (losePrimary false o) := by
  cases hsel : o.sel with
  | primary =>
    cases haction : o.action with
    | mute => rw [losePrimary_mute hsel haction, losePrimary_mute hsel haction]
    | backup =>
      rw [losePrimary_backup hsel haction, losePrimary_backup hsel haction]
      rfl
    | hold => rw [losePrimary_hold hsel haction, losePrimary_hold hsel haction]
  | backup => rw [losePrimary_onBackup hsel, losePrimary_onBackup hsel]
  | silent =>
    cases hfailed : o.failed with
    | true =>
      rw [losePrimary_failed hsel hfailed, losePrimary_failed hsel hfailed]
      by_cases haction : o.action = .backup
      · rw [if_pos ⟨haction, rfl⟩, if_neg fun h => nomatch h.2]
        rfl
      · rw [if_neg fun h => haction h.1, if_neg fun h => haction h.1]
    | false => rw [losePrimary_unfailed hsel hfailed, losePrimary_unfailed hsel hfailed]

theorem loseBackup_of_backup {o : Output} (h : o.sel = .backup) : loseBackup o = { o with sel := .silent } :=
  if_pos (beq_iff_eq.mpr h)

theorem loseBackup_of_other {o : Output} (h : o.sel ≠ .backup) : loseBackup o = o := if_neg fun hb => h (beq_iff_eq.mp hb)

/-- Without its backup an output is not on it. -/
theorem losePrimary_off {o : Output} (h : o.sel ≠ .backup) : (losePrimary false o).sel ≠ .backup := by
  unfold losePrimary
  split
  case h_4 hsel => exact absurd hsel h
  case h_3 hsel _ => exact h
  case h_5 => split <;> simp_all
  all_goals simp

set_option Elab.async false in
/-- The order in which an output loses its two sources makes no difference, where its flag tells that it left its
primary. -/
theorem losePrimary_loseBackup {o : Output} (h : o.sel = .backup → o.failed = true) :
    losePrimary false (loseBackup o) = loseBackup (losePrimary false o) := by
  by_cases hsel : o.sel = .backup
  · have hsilent : losePrimary false { o with sel := .silent } = { o with sel := .silent, holdoff := 12000 } := by
      rw [losePrimary_failed (o := { o with sel := .silent }) rfl (h hsel), if_neg fun hc => nomatch hc.2]
    rw [loseBackup_of_backup hsel, hsilent, losePrimary_onBackup hsel,
      loseBackup_of_backup (o := { o with failed := true, holdoff := 12000 }) hsel, h hsel]
  · rw [loseBackup_of_other hsel, loseBackup_of_other (losePrimary_off hsel)]

/-- What is lost, once and for all, at one of two changes or at neither. -/
theorem lost_cases : ∀ {a b c : Bool}, (b = true → a = true) → (c = true → b = true) →
    (a = b ∧ b = c) ∨ (a = true ∧ b = false ∧ c = false) ∨ (a = true ∧ b = true ∧ c = false) := by
  decide

theorem followed_followed {ps pt pu bs bt bu : Bool} {o : Output} (hp : pt = true → ps = true) (hp' : pu = true → pt = true)
    (hb : bt = true → bs = true) (hb' : bu = true → bt = true) (hrule : ps = true → o.sel = .backup → o.failed = true) :
    followed pt pu bt bu (followed ps pt bs bt o) = followed ps pu bs bu o := by
  have hsame (b : Bool) : (b && !b) = false ∧ (!b && b) = false := by cases b <;> decide
  rcases lost_cases hp hp' with ⟨rfl, rfl⟩ | ⟨rfl, rfl, rfl⟩ | ⟨rfl, rfl, rfl⟩
  · rcases lost_cases hb hb' with ⟨rfl, rfl⟩ | ⟨rfl, rfl, rfl⟩ | ⟨rfl, rfl, rfl⟩
    all_goals simp [followed, hsame]
  · rcases lost_cases hb hb' with ⟨rfl, rfl⟩ | ⟨rfl, rfl, rfl⟩ | ⟨rfl, rfl, rfl⟩
    · simp [followed, hsame]
    · rfl
    · exact loseBackup_losePrimary o
  · rcases lost_cases hb hb' with ⟨rfl, rfl⟩ | ⟨rfl, rfl, rfl⟩ | ⟨rfl, rfl, rfl⟩
    · simp [followed, hsame]
    · exact losePrimary_loseBackup (hrule rfl)
    · rfl

/-- An output keeps its setting's sources, and comes back to its primary by no change of them alone. -/
structure SameSetting (o o' : Output) : Prop where
  primary : o'.primary = o.primary
  backup : o'.backup = o.backup
  away : o.sel ≠ .primary → o'.sel ≠ .primary

namespace SameSetting

theorem refl (o : Output) : SameSetting o o := ⟨rfl, rfl, id⟩

theorem trans {o o' o'' : Output} (h : SameSetting o o') (h' : SameSetting o' o'') : SameSetting o o'' :=
  ⟨h'.primary.trans h.primary, h'.backup.trans h.backup, h'.away ∘ h.away⟩

end SameSetting

theorem losePrimary_setting (b : Bool) (o : Output) : SameSetting o (losePrimary b o) := by
  unfold losePrimary
  split
  case h_1 hsel _ => exact ⟨rfl, rfl, fun h => absurd hsel h⟩
  case h_2 hsel _ => exact ⟨rfl, rfl, fun h => absurd hsel h⟩
  case h_3 => exact ⟨rfl, rfl, id⟩
  case h_4 => exact ⟨rfl, rfl, id⟩
  case h_5 =>
    split
    · refine ⟨rfl, rfl, fun _ => ?_⟩
      dsimp only
      split <;> nofun
    · exact .refl o

theorem loseBackup_setting (o : Output) : SameSetting o (loseBackup o) := by
  unfold loseBackup
  split
  · exact ⟨rfl, rfl, fun _ => nofun⟩
  · exact .refl o

theorem gainBackup_setting (b : Bool) (o : Output) : SameSetting o (gainBackup b o) := by
  unfold gainBackup
  split
  · exact ⟨rfl, rfl, fun _ => nofun⟩
  · exact .refl o

theorem followOutput_setting (s t : State) (o : Output) : SameSetting o (followOutput s t o) := by
  rw [followOutput_eq, followed]
  have hprimary (lost : Bool) (b : Bool) : SameSetting o (if lost then losePrimary b o else o) := by
    cases lost
    · exact .refl o
    · exact losePrimary_setting b o
  split
  · exact (hprimary _ _).trans (loseBackup_setting _)
  · split
    · exact (hprimary _ _).trans (gainBackup_setting _ _)
    · exact hprimary _ _

/-! ## Availability, as ports lose their paths -/

theorem available_congr {s t : State} (honline : ∀ q, online t q = online s q) (hmerges : t.merges = s.merges)
    (src : Option Source) : available t src = available s src := by
  cases src with
  | none => rfl
  | some src => rw [available, available, hmerges, honline]

theorem PortLeft.available {s t : State} (h : ∀ q, PortLeft q s t) {src : Option Source} (ha : available t src = true) :
    available s src = true := by
  cases src with
  | none => exact ha
  | some src =>
    rw [Machine.available, Bool.and_eq_true] at ha ⊢
    obtain ⟨hon, hmask⟩ := ha
    have hwas := (h src.port).was_online hon
    obtain ⟨hmerge, -⟩ := (h src.port).kept (hon.trans hwas.symm)
    exact ⟨hwas, hmerge ▸ hmask⟩

/-- A port is GOOD only where it was. -/
theorem PortLeft.good {q : Port} {s t : State} (h : PortLeft q s t) (hgood : (t.clock.monitors.get q).state = .good) :
    (s.clock.monitors.get q).state = .good := by
  by_cases hs : online s q = true
  · by_cases ht : online t q = true
    · obtain ⟨-, -, -, hstate⟩ := h.kept (ht.trans hs.symm)
      rw [← hstate, hgood]
    · obtain ⟨-, -, -, hmonitor⟩ := h.gone hs (Bool.eq_false_iff.mpr ht)
      rw [hmonitor] at hgood
      exact nomatch hgood
  · have ht : ¬ online t q = true := fun ht => hs (h.was_online ht)
    obtain ⟨-, -, -, hstate⟩ := h.kept ((Bool.eq_false_iff.mpr ht).trans (Bool.eq_false_iff.mpr hs).symm)
    rw [← hstate, hgood]

/-! ## A step that takes no port OFFLINE -/

/-- The selected port has lost its reference path on the way from one state to another. -/
def ReferenceLost (s t : State) : Prop :=
  ∃ q x, s.clock.source = some q ∧ online s q = true ∧ (s.clock.monitors.get q).ref = some x
    ∧ Carrying q x s ∧ ¬ Carrying q x t

/-- A step that takes no port OFFLINE: it reaches the paths and the clock alone, and is a switch where the selected port
loses its reference. -/
structure Mild (s t : State) : Prop where
  online : ∀ q, online t q = online s q
  frame : SameExcept [.paths, .clock] s t
  source : t.clock.source = s.clock.source
  states : ∀ q, (t.clock.monitors.get q).state = (s.clock.monitors.get q).state
  switched : t.clock.switched = true ↔ s.clock.switched = true ∨ ReferenceLost s t

set_option Elab.async false in
theorem online_replaced {p : Port} {x : PathName} {r : PathRec} {s t : State} (hr : carries r = false)
    (ht : t.paths = (setPath p x r s).paths) (hx : Carrying p x s) (hother : Carrying p (otherPath x) s) (q : Port) :
    online t q = online s q := by
  have hcarry := carrying_replaced hr ht
  by_cases hq : q = p
  · subst hq
    rw [online_of_carrying hx]
    exact online_of_carrying ((hcarry _ _).mpr ⟨fun h => otherPath_ne x h.2, hother⟩)
  · exact online_congr fun y => by rw [hcarry, and_iff_right fun h => hq h.1]

theorem mild_setPath {p : Port} {x : PathName} {r : PathRec} {s : State} (hr : carries r = false)
    (h : Carrying p x s → Carrying p (otherPath x) s ∧ (s.clock.monitors.get p).ref ≠ some x) : Mild s
        (setPath p x r s) := by
  have hclock : (setPath p x r s).clock = s.clock := setPath_frame p x r s .clock (by decide)
  refine ⟨fun q => ?_, (setPath_frame p x r s).mono (by simp), by rw [hclock], fun q => by rw [hclock], ?_⟩
  · by_cases hx : Carrying p x s
    · exact online_replaced hr rfl hx (h hx).1 q
    · exact online_congr (samePort_setPath_idle hr hx q).carrying
  · rw [hclock, iff_self_or]
    rintro ⟨q, y, -, -, href, hy, hgone⟩
    refine absurd ((carrying_replaced hr rfl q y).mpr ⟨?_, hy⟩) hgone
    rintro ⟨rfl, rfl⟩
    exact (h hy).2 href

theorem mild_moved {p : Port} {x : PathName} {r : PathRec} {s : State} (hr : carries r = false) (hx : Carrying p x s)
    (hother : Carrying p (otherPath x) s) (href : (s.clock.monitors.get p).ref = some x) :
    Mild s (moveReference p (otherPath x) (setPath p x r s)) := by
  have hclock := moveReference_clock p (otherPath x) (setPath p x r s)
  have hpaths := moveReference_paths p (otherPath x) (setPath p x r s)
  have hframe : SameExcept [.paths, .clock] s (moveReference p (otherPath x) (setPath p x r s)) :=
    (setPath_frame p x r s).seq (moveReference_frame _ _ _)
  rw [setPath_frame p x r s .clock (by decide)] at hclock
  generalize moveReference p (otherPath x) (setPath p x r s) = u at hclock hpaths hframe ⊢
  refine ⟨online_replaced hr hpaths hx hother, hframe, by rw [hclock], fun q => ?_, ?_⟩
  · rw [hclock]
    by_cases hq : q = p
    · rw [hq, PerPort.get_set_self]
    · rw [PerPort.get_set_ne _ _ hq]
  · rw [hclock, Bool.or_eq_true, beq_iff_eq]
    refine or_congr_right ⟨fun hsource => ⟨p, x, hsource, online_of_carrying hx, href, hx, fun h => ?_⟩, ?_⟩
    · exact ((carrying_replaced hr hpaths p x).mp h).1 ⟨rfl, rfl⟩
    · rintro ⟨q, y, hsource, -, -, hy, hgone⟩
      have hpath : q = p ∧ y = x := by
        by_contra hne
        exact hgone ((carrying_replaced hr hpaths q y).mpr ⟨hne, hy⟩)
      rw [hsource, hpath.1]

/-- A step takes a port OFFLINE, or none. -/
theorem PathStep.mild_or_last {s t : State} (h : PathStep s t) : Mild s t ∨ ∃ p x r, carries r = false ∧ Carrying p x s
    ∧ ¬ Carrying p (otherPath x) s ∧ t = goOffline s p (setPath p x r s) := by
  cases h with
  | stay =>
    refine .inl ⟨fun _ => rfl, .refl _ _, rfl, fun _ => rfl, ?_⟩
    rw [iff_self_or]
    rintro ⟨q, y, -, -, -, hy, hgone⟩
    exact absurd hy hgone
  | idle hr hx => exact .inl (mild_setPath hr fun h => absurd h hx)
  | spare hr _ hother href => exact .inl (mild_setPath hr fun _ => ⟨hother, href⟩)
  | moved hr hx hother href => exact .inl (mild_moved hr hx hother href)
  | last hr hx hother => exact .inr ⟨_, _, _, hr, hx, hother, rfl⟩

end Sys2Proof.Safety
end

section
/-! PROOFS. A write of PATH_ENABLE (R8, R12, R25, R26, R135). -/

namespace Sys2Proof.Safety
open Sys2Proof.Machine
/-! ## All that the loss of paths leaves -/

/-- What paths disabled one after another leave, seen from the state before the first. -/
structure PathsLeft (s t : State) : Prop where
  port : ∀ q, PortLeft q s t
  frame : SameExcept (.paths :: offlineBlocks) s t
  setting : ∀ i : OutId, SameSetting (s.outputs[i]'i.2) (t.outputs[i]'i.2)
  outputs : OutputsOk s → ∀ i : OutId, (t.outputs[i]'i.2) = followOutput s t (s.outputs[i]'i.2)
  selected : (∃ q, online s q = true ∧ online t q = false) → t.clock.source = firstGood s.settings.clockPriority t.clock
  steady : (∀ q, online t q = online s q) → t.clock.source = s.clock.source
    ∧ (t.clock.switched = true ↔ s.clock.switched = true ∨ ReferenceLost s t)

/-- The selected port's reference is lost once, at one change or at another. -/
theorem referenceLost_trans {s t u : State} (h : ∀ q, PortLeft q s t) (h' : ∀ q, PortLeft q t u)
    (honline : ∀ q, online t q = online s q) (hsource : t.clock.source = s.clock.source) :
    ReferenceLost s u ↔ ReferenceLost s t ∨ ReferenceLost t u := by
  have hstayed {q : Port} (hon : online s q = true)
      (hall : ∀ x, (s.clock.monitors.get q).ref = some x → Carrying q x s → Carrying q x t) :
      t.clock.monitors.get q = s.clock.monitors.get q := (h q).stayed hon ((honline q).trans hon) hall
  constructor
  · rintro ⟨q, x, hq, hon, href, hx, hgone⟩
    by_cases hxt : Carrying q x t
    · have hmonitor := hstayed hon fun y hy _ => by
        rw [Option.some.inj (hy.symm.trans href)]
        exact hxt
      exact .inr ⟨q, x, hsource.trans hq, (honline q).trans hon, hmonitor ▸ href, hxt, hgone⟩
    · exact .inl ⟨q, x, hq, hon, href, hx, hxt⟩
  · rintro (⟨q, x, hq, hon, href, hx, hgone⟩ | ⟨q, x, hq, hon, href, hx, hgone⟩)
    · exact ⟨q, x, hq, hon, href, hx, fun hu => hgone ((h' q).fewer x hu)⟩
    · rw [hsource] at hq
      rw [honline] at hon
      by_cases hall : ∀ y, (s.clock.monitors.get q).ref = some y → Carrying q y s → Carrying q y t
      · rw [hstayed hon hall] at href
        exact ⟨q, x, hq, hon, href, (h q).fewer x hx, hgone⟩
      · simp only [not_forall] at hall
        obtain ⟨y, hy, hys, hyt⟩ := hall
        exact ⟨q, y, hq, hon, hy, hys, fun hu => hyt ((h' q).fewer y hu)⟩

theorem firstGood_congr {order : List Port} {k k' : Clock}
    (h : ∀ q, (k'.monitors.get q).state = (k.monitors.get q).state) : firstGood order k' = firstGood order k := by
  simp only [firstGood, h]

theorem PathStep.frame {s t : State} (h : PathStep s t) : SameExcept (.paths :: offlineBlocks) s t := by
  rcases h.mild_or_last with h | ⟨p, x, r, -, -, -, rfl⟩
  · exact h.frame.mono (by decide)
  · exact (setPath_frame p x r s).seq (goOffline_frame _ _ _)

namespace PathsLeft

theorem refl (s : State) : PathsLeft s s where
  port q := .refl q s
  frame := .refl _ s
  setting _ := .refl _
  outputs _ i := by
    rw [followOutput_eq, followed_kept _ fun h => absurd (h.1.symm.trans h.2) (by decide),
      if_neg fun h => absurd (h.1.symm.trans h.2) (by decide), if_neg fun h => absurd (h.1.symm.trans h.2) (by decide)]
  selected h := by
    obtain ⟨q, hon, hoff⟩ := h
    exact absurd (hon.symm.trans hoff) (by decide)
  steady _ := by
    refine ⟨rfl, ?_⟩
    rw [iff_self_or]
    rintro ⟨q, y, -, -, -, hy, hgone⟩
    exact absurd hy hgone

variable {s t u : State}

theorem step_mild (h : PathsLeft s t) (hstep : PathStep t u) (hmild : Mild t u) : PathsLeft s u := by
  have houtputs : u.outputs = t.outputs := hmild.frame .outputs (by decide)
  refine ⟨fun q => hstep.portLeft (h.port q), h.frame.trans hstep.frame, fun i => houtputs ▸ h.setting i, fun hok i => ?_,
    fun hgone => ?_, fun hsame => ?_⟩
  · rw [houtputs, h.outputs hok]
    exact (followOutput_congr (fun _ => rfl)
      (available_congr hmild.online (hmild.frame .merges (by decide))) _).symm
  · rw [hmild.source, firstGood_congr hmild.states]
    obtain ⟨q, hon, hoff⟩ := hgone
    exact h.selected ⟨q, hon, (hmild.online q).symm.trans hoff⟩
  · have honline (q : Port) : online t q = online s q := (hmild.online q).symm.trans (hsame q)
    obtain ⟨hsource, hswitched⟩ := h.steady honline
    refine ⟨hmild.source.trans hsource, ?_⟩
    rw [hmild.switched, hswitched, or_assoc,
      referenceLost_trans h.port (fun q => hstep.portLeft (.refl q t)) honline hsource]

theorem step_last (h : PathsLeft s t) {p : Port} {x : PathName} {r : PathRec} (hr : carries r = false)
    (hx : Carrying p x t) (hother : ¬ Carrying p (otherPath x) t) : PathsLeft s (goOffline t p (setPath p x r t)) := by
  have hstep : PathStep t (goOffline t p (setPath p x r t)) := .last hr hx hother
  have hport (q : Port) := hstep.portLeft (h.port q)
  have hthen (q : Port) := hstep.portLeft (.refl q t)
  have hframe := hstep.frame
  have hset := setPath_frame p x r t
  have hcarry := carrying_replaced (x := x) hr (goOffline_paths t p (setPath p x r t)) p
  obtain ⟨-, -, -, -, hsource, -, houtputs, -⟩ := goOffline_eff t p (setPath p x r t)
  rw [hset .outputs (by decide)] at houtputs
  rw [hset .settings (by decide), h.frame .settings (by decide)] at hsource
  generalize goOffline t p (setPath p x r t) = u at hstep hport hthen hframe hcarry hsource houtputs ⊢
  refine ⟨hport, h.frame.trans hframe, fun i => ?_, fun hok i => ?_, fun _ => hsource, fun hsame => ?_⟩
  · rw [houtputs]
    exact (h.setting i).trans (followOutput_setting t u _)
  · have hrule : available s (s.outputs[i]'i.2).primary = true → (s.outputs[i]'i.2).sel = .backup →
        (s.outputs[i]'i.2).failed = true := fun ha hsel =>
      failed_of_sel (hok i) (primary_of_available ha) (by rw [hsel]; nofun)
    obtain ⟨hprimary, hbackup, -⟩ := followOutput_setting s t (s.outputs[i]'i.2)
    rw [houtputs, h.outputs hok, followOutput_eq t u, hprimary, hbackup, followOutput_eq s t, followOutput_eq s u]
    exact followed_followed (PortLeft.available h.port) (PortLeft.available hthen) (PortLeft.available h.port)
      (PortLeft.available hthen) hrule
  · have hon : online s p = true := (h.port p).was_online (online_of_carrying hx)
    rcases (online_iff_carrying x).mp ((hsame p).trans hon) with hc | hc
    · exact absurd ⟨rfl, rfl⟩ ((hcarry x).mp hc).1
    · exact absurd ((hcarry _).mp hc).2 hother

theorem step (h : PathsLeft s t) (hstep : PathStep t u) : PathsLeft s u := by
  rcases hstep.mild_or_last with hmild | ⟨p, x, r, hr, hx, hother, rfl⟩
  · exact h.step_mild hstep hmild
  · exact h.step_last hr hx hother

end PathsLeft

/-! ## The visits of the six paths -/

/-- One visit of a write of PATH_ENABLE (R8). -/
def visitPath (old new : PerPort (PerPath Bool)) (s : State) (a : Port × PathName) : State :=
  writePathFlag ((old.get a.1).get a.2) ((new.get a.1).get a.2) a.1 a.2 s

/-- The state after all its visits, before the report. -/
def visited (old : PerPort (PerPath Bool)) (s : State) : State := allPaths.foldl (visitPath old s.settings.pathEnable) s

theorem applyPathEnable_visited (old : PerPort (PerPath Bool)) (s : State) :
    applyPathEnable old s = settle (visited old s) := applyPathEnable_eq old s

section
variable {old new : PerPort (PerPath Bool)}

set_option Elab.async false in
theorem visits_left (as : List (Port × PathName)) {s t : State} (h : PathsLeft s t) :
    PathsLeft s (as.foldl (visitPath old new) t) :=
  foldl_keeps (I := PathsLeft s) (fun t a ht => ht.step (writePathFlag_step _ _ a.1 a.2 t)) as t h

theorem pathRec_visit {a : Port × PathName} {q : Port} {y : PathName} (h : (q, y) ≠ a) (s : State) :
    pathRec (visitPath old new s a) q y = pathRec s q y := by
  rw [visitPath, pathRec_writePathFlag, if_neg fun ha => h (Prod.ext ha.1 ha.2)]

theorem pathRec_visits (as : List (Port × PathName)) {q : Port} {y : PathName} (h : (q, y) ∉ as) (s : State) :
    pathRec (as.foldl (visitPath old new) s) q y = pathRec s q y := by
  induction as generalizing s with
  | nil => rfl
  | cons a as ih =>
    rw [List.foldl_cons, ih (fun hin => h (.tail _ hin)), pathRec_visit fun ha => h (ha ▸ .head _)]

end

/-! ## Reports on the way (R180) -/

/-- The reports made on the way from one state to another, where the conditions of the last are still to come. -/
structure ReportsLeft (final : Port → BitVec 12) (s t : State) : Prop where
  stretch : t.faults.stretch = s.faults.stretch
  kept : ∀ p, s.faults.sticky.get p &&& ~~~ t.faults.sticky.get p = 0
  set : ∀ p, t.faults.sticky.get p
    &&& ~~~ (s.faults.sticky.get p ||| (final p ||| (conditionsOf s p &&& ~~~ s.faults.active.get p))) = 0
  known : ∀ p, t.faults.active.get p &&& ~~~ (s.faults.active.get p ||| t.faults.sticky.get p) = 0
  held : ∀ p, conditionsOf t p &&& ~~~ (t.faults.active.get p ||| final p) = 0

/-- Each condition that one state has, another has or is to have. -/
def Foreseen (final : Port → BitVec 12) (s t : State) : Prop :=
  ∀ p, conditionsOf t p &&& ~~~ (conditionsOf s p ||| final p) = 0

/-- The masks of a report, bit by bit. -/
theorem mask_or {x y : BitVec 12} {i : Nat} {h : i < 12} : (x ||| y)[i] = true ↔ x[i] = true ∨ y[i] = true := by
  rw [BitVec.getElem_or, Bool.or_eq_true]

theorem mask_and_not {x y : BitVec 12} {i : Nat} {h : i < 12} : (x &&& ~~~y)[i] = true ↔ x[i] = true ∧ ¬ y[i] = true := by
  rw [BitVec.getElem_and, BitVec.getElem_not, Bool.and_eq_true, Bool.not_eq_true', Bool.eq_false_iff]

namespace ReportsLeft

variable {final : Port → BitVec 12} {s t u : State}

/-- A change without a report. -/
theorem same (h : ReportsLeft final s t) (hfaults : u.faults = t.faults) (hnew : Foreseen final t u) :
    ReportsLeft final s u := by
  refine ⟨hfaults ▸ h.stretch, hfaults ▸ h.kept, hfaults ▸ h.set, hfaults ▸ h.known, fun p => ?_⟩
  have hheld := h.held p
  have hc := hnew p
  rw [and_not_eq_zero] at hheld hc ⊢
  intro i hi hu
  rw [hfaults]
  rcases mask_or.mp (hc i hi hu) with ht | hf
  · exact hheld i hi ht
  · exact mask_or.mpr (.inr hf)

/-- A report. -/
theorem report (h : ReportsLeft final s t) : ReportsLeft final s (settle t) := by
  refine ⟨h.stretch, fun p => ?_, fun p => ?_, fun p => ?_, fun p => ?_⟩
  · have hkept := h.kept p
    rw [and_not_eq_zero] at hkept ⊢
    intro i hi hs
    rw [settle_sticky]
    exact mask_or.mpr (.inl (hkept i hi hs))
  · have hset := h.set p
    have hheld := h.held p
    rw [and_not_eq_zero] at hset hheld ⊢
    intro i hi ht
    rw [settle_sticky] at ht
    rcases mask_or.mp ht with hold | hnew
    · exact hset i hi hold
    · obtain ⟨hc, hactive⟩ := mask_and_not.mp hnew
      exact mask_or.mpr (.inr (mask_or.mpr (.inl ((mask_or.mp (hheld i hi hc)).resolve_left hactive))))
  · have hknown := h.known p
    rw [and_not_eq_zero] at hknown ⊢
    intro i hi hc
    rw [settle_active] at hc
    rw [settle_sticky]
    by_cases hactive : (t.faults.active.get p)[i] = true
    · rcases mask_or.mp (hknown i hi hactive) with hs | ht
      · exact mask_or.mpr (.inl hs)
      · exact mask_or.mpr (.inr (mask_or.mpr (.inl ht)))
    · exact mask_or.mpr (.inr (mask_or.mpr (.inr (mask_and_not.mpr ⟨hc, hactive⟩))))
  · rw [and_not_eq_zero]
    intro i hi hc
    rw [conditionsOf_settle] at hc
    rw [settle_active]
    exact mask_or.mpr (.inl hc)

/-- The first report, of a port that has been heard. -/
theorem heard (p : Port) (s : State) : ReportsLeft final s (heard p s) := by
  have hwithin (q : Port) : conditionsOf (Machine.heard p s) q &&& ~~~ (conditionsOf s q) = 0 := by
    have h := conditionsOf_within (r := Machine.heard p s) (s := s) (u := s) (p := q)
      fun k hk => .inl (conditionHolds_heard k hk)
    rwa [BitVec.or_self] at h
  have hnew (q : Port) : conditionsOf (setPresence p { present := true, running := true, elapsed := 0 } s) q
      = conditionsOf (Machine.heard p s) q := (conditionsOf_settle _ q).symm
  refine ⟨rfl, fun q => ?_, fun q => ?_, fun q => ?_, fun q => ?_⟩
  all_goals rw [and_not_eq_zero]; intro i hi hc
  · rw [Machine.heard, settle_sticky]
    exact mask_or.mpr (.inl hc)
  · rw [Machine.heard, settle_sticky, hnew] at hc
    rcases mask_or.mp hc with hold | hset
    · exact mask_or.mpr (.inl hold)
    · obtain ⟨hset, hactive⟩ := mask_and_not.mp hset
      exact mask_or.mpr (.inr (mask_or.mpr (.inr (mask_and_not.mpr ⟨and_not_eq_zero.mp (hwithin q) i hi hset, hactive⟩))))
  · rw [Machine.heard, settle_active] at hc
    rw [Machine.heard, settle_sticky]
    by_cases hactive : (s.faults.active.get q)[i] = true
    · exact mask_or.mpr (.inl hactive)
    · exact mask_or.mpr (.inr (mask_or.mpr (.inr (mask_and_not.mpr ⟨hc, hactive⟩))))
  · rw [Machine.heard, settle_active]
    exact mask_or.mpr (.inl (hnew q ▸ hc))

/-- The last report. -/
theorem done (h : ReportsLeft (conditionsOf t) s t) : OnlyConditionsReported s (settle t) := by
  have hlast := h.report
  refine ⟨fun p => ⟨(settle_active t p).trans (conditionsOf_settle t p).symm, hlast.kept p, ?_, hlast.known p⟩,
    hlast.stretch, settle_driven t⟩
  rw [reportable, conditionsOf_settle]
  exact hlast.set p

/-- A step, whether it reports or not. -/
theorem step (h : ReportsLeft final s t) (hstep : PathStep t u) (hnew : Foreseen final t u) : ReportsLeft final s u := by
  rcases hstep.mild_or_last with hmild | ⟨p, x, r, -, -, -, hu⟩
  · exact h.same (hmild.frame .faults (by decide)) hnew
  · obtain ⟨-, -, -, -, -, -, -, w, hw, hfaults⟩ := goOffline_eff t p (setPath p x r t)
    rw [hu, hw] at hnew ⊢
    refine (h.same (hfaults.trans (setPath_frame p x r t .faults (by decide))) fun q => ?_).report
    rw [← conditionsOf_settle]
    exact hnew q

end ReportsLeft

end Sys2Proof.Safety
end

section
/-! PROOFS. What a write of PATH_ENABLE reports, and the command (R8, R135, R180). -/

namespace Sys2Proof.Safety
open Sys2Proof.Machine
/-! ## No condition that a visit makes hold is gone after the last -/

theorem foreseen_of_conditions {final s t : State}
    (h : ∀ p k, conditionHolds t p k = true → conditionHolds s p k = true ∨ conditionHolds final p k = true) :
    Foreseen (conditionsOf final) s t := fun p => conditionsOf_within (h p)

section
variable {s u f : State} {a : Port × PathName}

/-- A receiver that a visit has changed is as the last visit leaves it. -/
theorem foreseen_path (hother : ∀ q y, (q, y) ≠ a → pathRec u q y = pathRec s q y)
    (hown : pathRec f a.1 a.2 = pathRec u a.1 a.2) {holds : PathState → Prop}
    (h : ∃ q y, holds ((u.paths.get q).get y).state) :
    (∃ q y, holds ((s.paths.get q).get y).state) ∨ ∃ q y, holds ((f.paths.get q).get y).state := by
  obtain ⟨q, y, hstate⟩ := h
  by_cases ha : (q, y) = a
  · subst ha
    exact .inr ⟨q, y, (congrArg (fun r => holds r.state) hown).mpr hstate⟩
  · exact .inl ⟨q, y, (congrArg (fun r => holds r.state) (hother q y ha)).mp hstate⟩

variable (hstep : PathStep s u) (huf : PathsLeft u f) (hsf : PathsLeft s f)
include hstep huf hsf

set_option Elab.async false in
/-- A source that a visit has selected past the head of the list is not at the head after the last. -/
theorem foreseen_fallback (h : clockFallbackHolds u = true) : clockFallbackHolds s = true ∨ clockFallbackHolds f = true := by
  obtain ⟨head, hhead, haway⟩ := clockFallbackHolds_iff.mp h
  have hsettings : u.settings = s.settings := hstep.frame .settings (by decide)
  have hsettings' : f.settings = u.settings := huf.frame .settings (by decide)
  rcases hstep.mild_or_last with hmild | ⟨p, x, r, hr, hx, hoff, hu⟩
  · exact .inl (clockFallbackHolds_iff.mpr ⟨head, hsettings ▸ hhead, hmild.source ▸ haway⟩)
  · refine .inr (clockFallbackHolds_iff.mpr ⟨head, hsettings'.symm ▸ hhead, fun hsource => haway ?_⟩)
    have hgone : online u p = false := by
      rw [hu, Bool.eq_false_iff, ne_eq, online_iff_carrying x, carrying_replaced hr (goOffline_paths _ _ _),
        carrying_replaced hr (goOffline_paths _ _ _)]
      rintro (⟨hne, -⟩ | ⟨-, hc⟩)
      · exact hne ⟨rfl, rfl⟩
      · exact hoff hc
    have hgone' : online f p = false :=
      Bool.eq_false_iff.mpr fun hf => Bool.false_ne_true (hgone.symm.trans ((huf.port p).was_online hf))
    have hselected : f.clock.source = firstGood s.settings.clockPriority f.clock :=
      hsf.selected ⟨p, online_of_carrying hx, hgone'⟩
    have hnow : u.clock.source = firstGood s.settings.clockPriority u.clock :=
      ((PathsLeft.refl s).step hstep).selected ⟨p, online_of_carrying hx, hgone⟩
    rw [hsource] at hselected
    rw [hnow]
    obtain ⟨rest, hrest⟩ : ∃ rest, s.settings.clockPriority = head :: rest :=
      ⟨_, (List.cons_head?_tail (hsettings ▸ hhead)).symm⟩
    have hgood : (f.clock.monitors.get head).state = .good := by
      have hfound := List.find?_some hselected.symm
      exact beq_iff_eq.mp hfound
    rw [hrest, firstGood]
    exact List.find?_cons_of_pos (beq_iff_eq.mpr ((huf.port head).good hgood))

theorem foreseen_visit (hother : ∀ q y, (q, y) ≠ a → pathRec u q y = pathRec s q y)
    (hown : pathRec f a.1 a.2 = pathRec u a.1 a.2) : Foreseen (conditionsOf f) s u := by
  refine foreseen_of_conditions fun p k hk => ?_
  have hsettings : u.settings = s.settings := hstep.frame .settings (by decide)
  have hpresence : u.presence = s.presence := hstep.frame .presence (by decide)
  cases k
  case pathLoss =>
    rw [conditionHolds, pathLossHolds_iff] at hk ⊢
    rw [conditionHolds, pathLossHolds_iff]
    exact foreseen_path hother hown (holds := fun st => st = .dark ∨ st = .acquire) hk
  case pathDegraded =>
    rw [conditionHolds, pathDegradedHolds_iff] at hk ⊢
    rw [conditionHolds, pathDegradedHolds_iff]
    exact foreseen_path hother hown (holds := (· = .degraded)) hk
  case clockFallback => exact foreseen_fallback hstep huf hsf hk
  case outputFailover =>
    obtain ⟨o, hprimary, hsel⟩ := outputFailoverHolds_iff.mp hk
    obtain ⟨hsame, -, haway⟩ := huf.setting o
    exact .inr (outputFailoverHolds_iff.mpr ⟨o, hsame ▸ hprimary, haway hsel⟩)
  case deskAbsent =>
    rw [conditionHolds, deskAbsentHolds_iff, hsettings, hpresence] at hk
    exact .inl (deskAbsentHolds_iff.mpr hk)
  case phantomShed =>
    rw [conditionHolds, phantomShedHolds_iff, hstep.frame .phantom (by decide)] at hk
    exact .inl (phantomShedHolds_iff.mpr hk)
  case trackLimit =>
    rw [conditionHolds, trackLimitHolds_iff, hstep.frame .tracks (by decide)] at hk
    exact .inl (trackLimitHolds_iff.mpr hk)
  all_goals exact nomatch hk

end

/-- The visits that are left keep what has been reported within what is to hold after the last. -/
theorem reports_visits {old new : PerPort (PerPath Bool)} (as : List (Port × PathName)) (hnodup : as.Nodup) {s t f : State}
    (hf : f = as.foldl (visitPath old new) t) (h : ReportsLeft (conditionsOf f) s t) : ReportsLeft (conditionsOf f) s f := by
  induction as generalizing t with
  | nil =>
    obtain rfl : f = t := hf
    exact h
  | cons a as ih =>
    obtain ⟨hnot, hrest⟩ := List.nodup_cons.mp hnodup
    have hstep : PathStep t (visitPath old new t a) := writePathFlag_step _ _ a.1 a.2 t
    refine ih hrest hf (h.step hstep (foreseen_visit (a := a) hstep ?_ ?_ (fun q y hne => pathRec_visit hne t) ?_))
    · exact hf ▸ visits_left as (.refl _)
    · exact hf ▸ visits_left (a :: as) (.refl t)
    · rw [hf]
      exact pathRec_visits as hnot _

theorem allPaths_nodup : allPaths.Nodup := by decide

/-! ## The flags written -/

/-- The flags that a value of PATH_ENABLE names (R190). -/
def flagsOf (v : Nat) : PerPort (PerPath Bool) :=
  .of fun q => .of fun x => v.testBit (2 * portNo q + match x with | .a => 0 | .b => 1)

theorem flagsOf_get (v : Nat) (q : Port) (x : PathName) :
    ((flagsOf v).get q).get x = v.testBit (2 * portNo q + match x with | .a => 0 | .b => 1) := by
  rw [flagsOf, PerPort.get_of, PerPath.get_of]

theorem putItem_pathEnable (v : Nat) (st : Settings) :
    putItem .pathEnable (v % 65536) st = { st with pathEnable := flagsOf v } := by
  have hbit (i : Nat) (hi : i < 16) : bitAt i (v % 65536) = v.testBit i := by
    rw [bitAt, show 65536 = 2 ^ 16 from rfl, Nat.testBit_mod_two_pow, decide_eq_true hi, Bool.true_and]
  have hflags : (PerPort.of fun q => PerPath.mk (bitAt (2 * portNo q) (v % 65536)) (bitAt (2 * portNo q + 1) (v % 65536)))
      = flagsOf v := by
    refine congrArg PerPort.of (funext fun q => ?_)
    rw [hbit _ (by cases q <;> decide), hbit _ (by cases q <;> decide)]
    rfl
  rw [putItem, hflags]

/-- The stored form of PATH_ENABLE is its six bits. -/
theorem storedFlags_eq (v : Nat) (st : Settings) :
    storedForm { st with pathEnable := flagsOf v } .pathEnable = 0#10 ++ BitVec.ofNat 6 v := by
  have hbits : ∀ x : BitVec 6, BitVec.ofNat 16 (ports.map fun q => flagAt (2 * portNo q) (x.getLsbD (2 * portNo q))
      + flagAt (2 * portNo q + 1) (x.getLsbD (2 * portNo q + 1))).sum = 0#10 ++ x := by decide
  have hbit (i : Nat) (hi : i < 6) : (BitVec.ofNat 6 v).getLsbD i = v.testBit i := by
    rw [BitVec.getLsbD_ofNat, decide_eq_true hi, Bool.true_and]
  rw [← hbits (BitVec.ofNat 6 v)]
  refine congrArg (fun l : List Nat => BitVec.ofNat 16 l.sum) (List.map_congr_left fun q _ => ?_)
  rw [hbit _ (by cases q <;> decide), hbit _ (by cases q <;> decide)]
  exact congrArg₂ (fun a b => flagAt _ a + flagAt _ b) (flagsOf_get v q .a) (flagsOf_get v q .b)

/-! ## The receivers -/

/-- A receiver after a write of its flag, in the words of R8. -/
theorem flagged_eq (was flag : Bool) (r : PathRec) : flagged was flag r =
    if was && !flag then bareReceiver .disabled .hunting
    else if !was && flag && r.state == .disabled then bareReceiver .dark .hunting else r := by
  cases was <;> cases flag <;> rfl

/-- A path that carries no more is one whose flag was cleared. -/
theorem carrying_flagged {q : Port} {x : PathName} {was flag : Bool} {s t : State}
    (h : pathRec t q x = flagged was flag (pathRec s q x)) :
    Carrying q x t ↔ Carrying q x s ∧ ¬ (was = true ∧ flag = false) := by
  rw [← carries_iff, ← carries_iff, h]
  cases was <;> cases flag
  case true.false => exact ⟨nofun, fun hc => absurd ⟨rfl, rfl⟩ hc.2⟩
  case false.true =>
    rw [flagged]
    split
    · next hdisabled =>
      have hstate : (pathRec s q x).state = .disabled := beq_iff_eq.mp hdisabled
      refine ⟨nofun, fun hc => ?_⟩
      rw [carries, hstate] at hc
      exact nomatch hc.1
    · exact (and_iff_left nofun).symm
  all_goals exact (and_iff_left nofun).symm

/-! ## The command -/

section
variable {p : Port} {m : SettingMsg} {s : State} (hr : Ready p s) (hi : refuseItem .pathEnable m = none)
include hr hi

/-- What a write of PATH_ENABLE executes, where the value written is v, the state with the item stored is `stored`, and the
state after the visits is `left`. -/
theorem exec_writePathEnable {v : Nat} {stored left : State} (hv : word ⟨m.tag, 0, m.body⟩ 0 = v)
    (hstored : stored = storeItem p .pathEnable (v % 65536) (heard p s))
    (hleft : left = visited s.settings.pathEnable stored) :
    exec (.writePathEnable p m) s =
      .next (enqueue p 18 m.tag ⟨.done, settingReply 1 (0#10 ++ BitVec.ofNat 6 v) s.journal, settle left⟩) := by
  have hform : storedForm (putItem .pathEnable (v % 65536) s.settings) .pathEnable = 0#10 ++ BitVec.ofNat 6 v := by
    rw [putItem_pathEnable, storedFlags_eq]
  have hwritten : written p .pathEnable (v % 65536) s = settle left := by
    rw [hleft, hstored]
    exact applyPathEnable_visited s.settings.pathEnable _
  rw [exec_write (c := .writePathEnable p m) hr hi rfl (congrArg (· % 65536) hv) (code_of_unranged (fun _ => rfl) _) hform,
    hwritten]
  rfl

end

/-- What the storing of PATH_ENABLE, after the port was heard, leaves for the visits. -/
theorem storedFlags (p : Port) (v : Nat) (s : State) :
    let stored := storeItem p .pathEnable (v % 65536) (heard p s)
    stored.settings = { s.settings with pathEnable := flagsOf v }
    ∧ stored.journal = journalWith [⟨.setting, 1, some p, 0#10 ++ BitVec.ofNat 6 v⟩] s.journal
    ∧ stored.presence = s.presence.set p { present := true, running := true, elapsed := 0 }
    ∧ stored.faults = (heard p s).faults
    ∧ SameExcept [.presence, .faults, .settings, .journal] s stored := by
  have hframe : SameExcept [.settings, .journal] (heard p s) (storeItem p .pathEnable (v % 65536) (heard p s)) :=
    storeItem_frame _ _ _ _
  refine ⟨putItem_pathEnable v s.settings, ?_, hframe .presence (by decide), hframe .faults (by decide),
    (heard_frame p s).seq hframe⟩
  refine storeItem_heard_journal p ?_
  rw [putItem_pathEnable, storedFlags_eq]

/-- The conditions that the storing makes hold are those of the flags as written. -/
theorem foreseen_stored {p : Port} {v : Nat} {s f : State}
    (hf : PathsLeft (storeItem p .pathEnable (v % 65536) (heard p s)) f) :
    Foreseen (conditionsOf f) (heard p s) (storeItem p .pathEnable (v % 65536) (heard p s)) := by
  have hframe : SameExcept [.settings, .journal] (heard p s) (storeItem p .pathEnable (v % 65536) (heard p s)) :=
    storeItem_frame _ _ _ _
  have hpriority : (storeItem p .pathEnable (v % 65536) (heard p s)).settings.clockPriority
      = (heard p s).settings.clockPriority := rfl
  generalize storeItem p .pathEnable (v % 65536) (heard p s) = u at hf hframe hpriority ⊢
  refine foreseen_of_conditions fun q k hk => ?_
  cases k
  case deskAbsent =>
    rw [conditionHolds, deskAbsentHolds_iff, ← hf.frame .settings (by decide), ← hf.frame .presence (by decide)] at hk
    exact .inr (deskAbsentHolds_iff.mpr hk)
  case pathLoss =>
    rw [conditionHolds, pathLossHolds_iff, hframe .paths (by decide)] at hk
    exact .inl (pathLossHolds_iff.mpr hk)
  case pathDegraded =>
    rw [conditionHolds, pathDegradedHolds_iff, hframe .paths (by decide)] at hk
    exact .inl (pathDegradedHolds_iff.mpr hk)
  case clockFallback =>
    rw [conditionHolds, clockFallbackHolds_iff, hframe .clock (by decide), hpriority] at hk
    exact .inl (clockFallbackHolds_iff.mpr hk)
  case outputFailover =>
    rw [conditionHolds, outputFailoverHolds_iff, hframe .outputs (by decide)] at hk
    exact .inl (outputFailoverHolds_iff.mpr hk)
  case phantomShed =>
    rw [conditionHolds, phantomShedHolds_iff, hframe .phantom (by decide)] at hk
    exact .inl (phantomShedHolds_iff.mpr hk)
  case trackLimit =>
    rw [conditionHolds, trackLimitHolds_iff, hframe .tracks (by decide)] at hk
    exact .inl (trackLimitHolds_iff.mpr hk)
  all_goals exact nomatch hk

end Sys2Proof.Safety
end

section
/-! PROOFS. PATH_ENABLE, seen from the state before the command (R8, R12, R25, R49). -/

namespace Sys2Proof.Safety
open Sys2Proof.Machine
/-! ## Seen from before the storing -/

set_option Elab.async false in
theorem carrying_of_paths {s t : State} (h : t.paths = s.paths) (q : Port) (x : PathName) : Carrying q x t
    ↔ Carrying q x s := by
  rw [Carrying, Carrying, h]

theorem SamePort.of_frame {l : List Block} {s t : State} (h : SameExcept l s t) (q : Port)
    (hl : ∀ b ∈ [Block.paths, .merges, .lanes, .talkMask, .clock, .signal], b ∉ l := by decide) : SamePort q s t where
  carrying := carrying_of_paths (h .paths (hl _ (by decide))) q
  merge := congrArg (PerPort.get · q) (h .merges (hl _ (by decide)))
  lane := congrArg (PerPort.get · q) (h .lanes (hl _ (by decide)))
  talk := congrArg (PerPort.get · q) (h .talkMask (hl _ (by decide)))
  monitor := congrArg (fun k : Clock => k.monitors.get q) (h .clock (hl _ (by decide)))
  signal := h .signal (hl _ (by decide))

/-- What a port is left is the same seen from a state in which its blocks are the same. -/
theorem PortLeft.from_same {q : Port} {r s t : State} (h : PortLeft q s t) (hs : SamePort q r s) : PortLeft q r t where
  fewer y hy := (hs.carrying y).mp (h.fewer y hy)
  signal := h.signal.trans hs.signal
  gone := by
    rw [← online_congr hs.carrying, ← hs.merge, ← hs.monitor]
    exact h.gone
  kept := by
    rw [← online_congr hs.carrying, ← hs.merge, ← hs.lane, ← hs.talk, ← hs.monitor]
    exact h.kept
  moved := by
    rw [← online_congr hs.carrying, ← hs.monitor, ← hs.signal]
    exact fun hon ht x href hx hgone => h.moved hon ht x href ((hs.carrying x).mpr hx) hgone
  stayed := by
    rw [← online_congr hs.carrying, ← hs.monitor]
    exact fun hon ht hall => h.stayed hon ht fun x href hx => hall x href ((hs.carrying x).mp hx)

theorem referenceLost_of_same {s s' t : State} (h : ∀ q, SamePort q s s') (hclock : s'.clock = s.clock) :
    ReferenceLost s' t ↔ ReferenceLost s t := by
  have honline (q : Port) : online s' q = online s q := online_congr (h q).carrying
  have hcarry (q : Port) (x : PathName) := (h q).carrying x
  simp only [ReferenceLost, hclock, honline, hcarry]

/-! ## The reply, or none -/

section
variable {p : Port} {tag : BitVec 8} {body : List Payload} {s left : State}

theorem answered_frame : SameExcept [.lanes, .faults] left (enqueue p 18 tag ⟨.done, body, settle left⟩) := by
  have hsettled : SameExcept [.lanes, .faults] left (settle left) := (settle_frame left).mono (by simp)
  by_cases h : online left p = true
  · rw [enqueue_of_online h]
    exact hsettled.trans ((replied_frame p _ _).mono (by simp))
  · rw [enqueue_of_offline (Bool.eq_false_iff.mpr h)]
    exact hsettled

theorem answered_lane_other {q : Port} (hq : q ≠ p) :
    (enqueue p 18 tag ⟨.done, body, settle left⟩).lanes.get q = left.lanes.get q := by
  by_cases h : online left p = true
  · rw [enqueue_of_online h]
    exact PerPort.get_set_ne _ _ hq
  · rw [enqueue_of_offline (Bool.eq_false_iff.mpr h)]
    exact congrArg (PerPort.get · q) (settle_frame left .lanes (by decide))

theorem answered_lane_online (h : online left p = true) : (enqueue p 18 tag ⟨.done, body, settle left⟩).lanes.get p =
    { left.lanes.get p with queue := (left.lanes.get p).queue ++ [⟨18, tag, .done, body⟩] } := by
  rw [enqueue_of_online h]
  exact PerPort.get_set_self _ _ _

theorem answered_lane_offline (h : online left p = false) :
    (enqueue p 18 tag ⟨.done, body, settle left⟩).lanes.get p = left.lanes.get p := by
  rw [enqueue_of_offline h]
  exact congrArg (PerPort.get · p) (settle_frame left .lanes (by decide))

theorem answered_reported (h : OnlyConditionsReported s (settle left)) :
    OnlyConditionsReported s (enqueue p 18 tag ⟨.done, body, settle left⟩) := by
  by_cases hon : online left p = true
  · rw [enqueue_of_online hon]
    exact h.of_same (replied_frame p _ _)
  · rw [enqueue_of_offline (Bool.eq_false_iff.mpr hon)]
    exact h

end

/-- What the visits leave and report, seen from the state before the command. -/
theorem visited_left {p : Port} {v : Nat} {s stored left : State}
    (hstored : stored = storeItem p .pathEnable (v % 65536) (heard p s))
    (hleft : left = visited s.settings.pathEnable stored) :
    PathsLeft stored left
    ∧ (∀ q x, pathRec left q x
        = flagged ((s.settings.pathEnable.get q).get x) (((flagsOf v).get q).get x) (pathRec s q x))
    ∧ OnlyConditionsReported s (settle left) := by
  obtain ⟨hsettings, -, -, hfaults, hsame⟩ := storedFlags p v s
  have hpaths : PathsLeft stored left := hleft ▸ visits_left allPaths (.refl stored)
  have hreports : ReportsLeft (conditionsOf left) s stored := by
    refine (ReportsLeft.heard p s).same (hstored ▸ hfaults) ?_
    rw [hstored] at hpaths ⊢
    exact foreseen_stored hpaths
  rw [← hstored] at hsettings hsame
  refine ⟨hpaths, fun q x => ?_, (reports_visits allPaths allPaths_nodup hleft hreports).done⟩
  have hpath := pathRec_applyPathEnable s.settings.pathEnable stored q x
  rw [applyPathEnable_visited, ← hleft, pathRec_of_paths (settle_frame left .paths (by decide)),
    pathRec_of_paths (hsame .paths (by decide)), hsettings] at hpath
  exact hpath

/-- Settles O38. -/
theorem pathEnableWriteDisablesAndEnablesPaths : Obligations.PathEnableWriteDisablesAndEnablesPaths := by
  intro p m s hr hi v flag was form
  obtain ⟨stored, hstored⟩ : ∃ u, u = storeItem p .pathEnable (v % 65536) (heard p s) := ⟨_, rfl⟩
  obtain ⟨left, hleft⟩ : ∃ u, u = visited s.settings.pathEnable stored := ⟨_, rfl⟩
  have hexec := exec_writePathEnable hr hi (v := v) rfl hstored hleft
  obtain ⟨hpaths, hrec, hreported⟩ := visited_left hstored hleft
  obtain ⟨hsettings, hjournal, hpresence, -, hsame⟩ := storedFlags p v s
  rw [← hstored] at hsettings hjournal hpresence hsame
  have hon : online s p = true := hr.2.1
  have hport (q : Port) : PortLeft q s left := (hpaths.port q).from_same (.of_frame hsame q)
  have hcarry (q : Port) (x : PathName) : Carrying q x left ↔ Carrying q x s ∧ ¬ (was q x = true ∧ flag q x = false) := by
    have hflagged := hrec q x
    rw [flagsOf_get] at hflagged
    exact carrying_flagged hflagged
  have hlost (q : Port) (x : PathName) (hx : Carrying q x s) :
      ¬ Carrying q x left ↔ was q x = true ∧ flag q x = false := by
    rw [hcarry, and_iff_right hx, not_not]
  have honline (q : Port) : online stored q = online s q := online_of_paths (hsame .paths (by decide)) q
  have hsource := hpaths.selected
  have hsteady := hpaths.steady
  have hbefore : stored.clock = s.clock := hsame .clock (by decide)
  simp only [honline, hsettings, referenceLost_of_same (fun q => .of_frame hsame q) hbefore, hbefore] at hsource hsteady
  have hend := answered_frame (p := p) (tag := m.tag) (body := settingReply 1 form s.journal) (left := left)
  have hother (q : Port) (hq : q ≠ p) := answered_lane_other (tag := m.tag) (body := settingReply 1 form s.journal)
    (left := left) hq
  have hanswer := answered_lane_online (p := p) (tag := m.tag) (body := settingReply 1 form s.journal) (left := left)
  have hsilence := answered_lane_offline (p := p) (tag := m.tag) (body := settingReply 1 form s.journal) (left := left)
  have hreport := answered_reported (p := p) (tag := m.tag) (body := settingReply 1 form s.journal) hreported
  refine ⟨_, hexec, ?_⟩
  generalize enqueue p 18 m.tag ⟨.done, settingReply 1 form s.journal, settle left⟩
      = t at hend hother hanswer hsilence hreport ⊢
  have honline' (q : Port) : online t q = online left q := online_of_paths (hend .paths (by decide)) q
  have hclock : t.clock = left.clock := hend .clock (by decide)
  have hmerges : t.merges = left.merges := hend .merges (by decide)
  have htalk : t.talkMask = left.talkMask := hend .talkMask (by decide)
  have hwhole : SameExcept (.paths :: offlineBlocks) stored t := hpaths.frame.trans (hend.mono (by decide))
  refine ⟨(hwhole .settings (by decide)).trans hsettings, (hwhole .journal (by decide)).trans hjournal, fun q x => ?_,
    fun q hwas hoff => ?_, fun hok i => ?_, fun q hwas hstill => ⟨fun x href hx hflag hclear => ?_, fun hall => ?_⟩,
    fun hall => ?_, fun q hq => ?_, fun hstill => ?_, (hwhole .presence (by decide)).trans hpresence, hreport,
    (hsame.mono (by decide)).trans (hwhole.mono (by decide))⟩
  · rw [hend .paths (by decide)]
    refine (hrec q x).trans ((flagged_eq _ _ _).trans ?_)
    rw [flagsOf_get]
    rfl
  · rw [honline'] at hoff
    obtain ⟨hmerge, hlane, hmask, hmonitor⟩ := (hport q).gone hwas hoff
    rw [hmerges, htalk, hclock]
    refine ⟨hmerge, ?_, hmask, hmonitor, hsource ⟨q, hwas, hoff⟩⟩
    by_cases hq : q = p
    · subst hq
      rw [hsilence hoff, hlane]
    · rw [hother q hq, hlane]
  · have houtputs : stored.outputs = s.outputs := hsame .outputs (by decide)
    rw [hend .outputs (by decide)]
    refine (hpaths.outputs (fun j => by rw [houtputs]; exact hok j) i).trans ?_
    rw [houtputs]
    exact followOutput_congr (available_of_same (hsame .paths (by decide)) (hsame .merges (by decide)))
      (fun src => (available_of_same (hend .paths (by decide)) hmerges src).symm) _
  · rw [hclock]
    exact (hport q).moved hwas ((honline' q).symm.trans hstill) x href hx ((hlost q x hx).mpr ⟨hflag, hclear⟩)
  · rw [hclock]
    refine (hport q).stayed hwas ((honline' q).symm.trans hstill) fun x href hx => ?_
    exact (hcarry q x).mpr ⟨hx, fun hflag => hall x href ⟨hx, hflag⟩⟩
  · obtain ⟨hkept, hswitched⟩ := hsteady fun q => (honline' q).symm.trans (hall q)
    rw [hclock]
    refine ⟨hkept, hswitched.trans (or_congr_right ?_)⟩
    refine exists_congr fun q => exists_congr fun x => and_congr_right fun _ => and_congr_right fun _ =>
      and_congr_right fun _ => and_congr_right fun hx => hlost q x hx
  · rw [honline'] at hq
    obtain ⟨hmerge, hlane, hmask, hstate⟩ := (hport q).kept hq
    rw [hmerges, htalk, hclock]
    exact ⟨hmerge, hmask, hstate, fun hne => (hother q hne).trans hlane⟩
  · rw [honline'] at hstill
    obtain ⟨-, hlane, -⟩ := (hport p).kept (hstill.trans hon.symm)
    rw [hanswer hstill, hlane]

end Sys2Proof.Safety
end
